-- ==== Sys2Proof/Word.lean ====
section
/-! DEFINITION. The widths of the block's words (spec 00_scope.md R10, 10_state.md R20, 30_encoding.md R80). -/

namespace Sys2Proof

/-- A captured byte (10_state.md R25, R40). -/
abbrev Byte := BitVec 8

/-- A register or bus word, unsigned (00_scope.md R10). -/
abbrev Word := BitVec 32

/-- A register word index `A` (10_state.md R20, 20_memory.md R60). -/
abbrev Addr := BitVec 4

/-- A host operation word, bit 36 = W, bits 35:32 = A, bits 31:0 = D (30_encoding.md R80). -/
abbrev Hop := BitVec 37

/-- A decoded payload `V` (44_payload_decoder.md R174). -/
abbrev Payload := BitVec 40

end Sys2Proof
end

