-- ==== Sys2Proof/Config.lean ====
section
/-! DEFINITION. What an implementation fixes (00_scope.md R8) and the values the spec leaves free (93_implementation_defined.md).
Every opaque constant here is without a body a proof can see: a claim that holds, holds whatever it is. -/

namespace Sys2Proof

/-- The three parameters "the model takes each as an argument" (00_scope.md R8). The operations take this record as an
argument; the machine of this package is run at `Config.params`. -/
structure Params where
  /-- CAP_BYTES, the capacity of CAPBUF in bytes. -/
  capBytes : Nat
  /-- CAP_RESULTS, the capacity of RESMEM in entries. -/
  capResults : Nat
  /-- LAT_MAX, the upper bound in clock cycles on START to completion, by byte count. -/
  latMax : Nat → Nat

namespace Config

/-- CAP_BYTES − 1: any value of 0 .. 2^28 − 1 (log entry 6). -/
opaque capBytesLessOne : BitVec 28

/-- CAP_RESULTS − 1: any value of 0 .. 2^31 − 1 (log entry 6). -/
opaque capResultsLessOne : BitVec 31

/-- LAT_MAX − 1, by byte count: any function (log entry 6). -/
opaque latMaxLessOne : Nat → Nat

/-- The parameters of the machine: 1 ≤ CAP_BYTES ≤ 2^28, 1 ≤ CAP_RESULTS ≤ 2^31, LAT_MAX finite (00_scope.md R8) and at
least 1 (70_reset_and_hazards.md R291). Every such triple is one value of the opaque constants. -/
def params : Params where
  capBytes := capBytesLessOne.toNat + 1
  capResults := capResultsLessOne.toNat + 1
  latMax := fun bc => latMaxLessOne bc + 1

/-- What the `n`-th free draw gives where a register is read that is unspecified while BUSY = 1: "a fresh draw per read"
(93_implementation_defined.md U3, 70_reset_and_hazards.md R286; log entry 5). -/
opaque freeRead : Nat → Word

/-- Whether completion falls at the edge of a cycle that the host's list of cycles no longer covers: "completion being
enabled whenever BUSY = 1" (70_reset_and_hazards.md R291, 20_memory.md R71; log entry 2). -/
opaque freeFinish : Nat → Bool

/-- The contents of entry `k` of CAPBUF while nothing has written it: unspecified (10_state.md R40; log entry 3). -/
opaque unwrittenByte : Nat → Byte

/-- The payload in entry `k` of RESMEM while nothing has written it: unspecified (10_state.md R42; log entry 4). -/
opaque unwrittenPayload : Nat → Payload

/-- The run index in entry `k` of RESMEM while nothing has written it: unspecified (10_state.md R42; log entry 4). -/
opaque unwrittenIndex : Nat → Nat

end Config

end Sys2Proof
end

