-- ==== Sys2Proof/Syntax.lean ====
section
/-! DEFINITION. The host operations: one constructor per row of spec/opcode_table.json, in the table's order.
An ignored bit (30_encoding.md R82, R84, R86) is no operand, so no constructor carries one. -/

namespace Sys2Proof

/-- A host operation (30_encoding.md R85, refined by R83). Where the table splits one operation over several rows, the
constructor is named after the first command code or address of its row. -/
inductive Instr where
  /-- NOP, a CTRL write with CMD = 0 (R210). -/
  | nop
  /-- CLEAR, a CTRL write with CMD = 1 (R212). -/
  | clear
  /-- START, a CTRL write with CMD = 2 (R213). -/
  | start
  /-- RSVD_CMD, a CTRL write with CMD = 3 (R211). -/
  | rsvdCmd3
  /-- RSVD_CMD, a CTRL write with CMD = 4..7 (R211). -/
  | rsvdCmd4 (cmd : BitVec 4)
  /-- RSVD_CMD, a CTRL write with CMD = 8..15 (R211). -/
  | rsvdCmd8 (cmd : BitVec 4)
  /-- PUSHB, a DATA_IN write (R215). -/
  | pushb (byte : Byte)
  /-- WRSEL, a RESULT_SEL write (R216). -/
  | wrsel (sel : Word)
  /-- WR_IGN, a write to A = 1, STATUS (R217). -/
  | wrIgn1
  /-- WR_IGN, a write to A = 3, BYTE_COUNT (R217). -/
  | wrIgn3
  /-- WR_IGN, a write to A = 4 or 5, RUN_COUNT or RESULT_COUNT (R217). -/
  | wrIgn4 (addr : Addr)
  /-- WR_IGN, a write to A = 7, RESULT_LO (R217). -/
  | wrIgn7
  /-- WR_IGN, a write to A = 8..15 (R217). -/
  | wrIgn8 (addr : Addr)
  /-- RD_STATUS, a read of A = 1 (R218). -/
  | rdStatus
  /-- RD_BYTE_COUNT, a read of A = 3 (R219). -/
  | rdByteCount
  /-- RD_RUN_COUNT, a read of A = 4 (R220). -/
  | rdRunCount
  /-- RD_RESULT_COUNT, a read of A = 5 (R221). -/
  | rdResultCount
  /-- RD_RESULT_SEL, a read of A = 6 (R222). -/
  | rdResultSel
  /-- RD_RESULT_LO, a read of A = 7 (R223). -/
  | rdResultLo
  /-- RD_RESULT_HI, a read of A = 8 (R224). -/
  | rdResultHi
  /-- RD_RESULT_IDX, a read of A = 9 (R225). -/
  | rdResultIdx
  /-- RD_CNT_NOMATCH, a read of A = 10 (R226). -/
  | rdCntNomatch
  /-- RD_CNT_COLLISION, a read of A = 11 (R227). -/
  | rdCntCollision
  /-- RD_CNT_TRUNC, a read of A = 12 (R228). -/
  | rdCntTrunc
  /-- RD_CNT_CHECKSUM, a read of A = 13 (R229). -/
  | rdCntChecksum
  /-- RD_CNT_DECODED, a read of A = 14 (R230). -/
  | rdCntDecoded
  /-- RD_ZERO, a read of A = 0, CTRL (R231). -/
  | rdZero0
  /-- RD_ZERO, a read of A = 2, DATA_IN (R231). -/
  | rdZero2
  /-- RD_ZERO, a read of A = 15, reserved (R231). -/
  | rdZero15
  deriving DecidableEq, Repr

end Sys2Proof
end

