-- ==== Sys2Proof/WellFormed.lean ====
section
/-! DEFINITION. Which terms of `Instr` are host operations: an operand lies in the range its row of
spec/opcode_table.json gives it. -/

namespace Sys2Proof

/-- The operand lies in its row's range; a row whose operand field is whole admits every value. -/
def Instr.wf : Instr → Bool
  | .rsvdCmd4 cmd => decide (4 ≤ cmd.toNat ∧ cmd.toNat ≤ 7)
  | .rsvdCmd8 cmd => decide (8 ≤ cmd.toNat)
  | .wrIgn4 addr => decide (addr.toNat = 4 ∨ addr.toNat = 5)
  | .wrIgn8 addr => decide (8 ≤ addr.toNat)
  | .pushb _ => true
  | .wrsel _ => true
  | .nop => true
  | .clear => true
  | .start => true
  | .rsvdCmd3 => true
  | .wrIgn1 => true
  | .wrIgn3 => true
  | .wrIgn7 => true
  | .rdStatus => true
  | .rdByteCount => true
  | .rdRunCount => true
  | .rdResultCount => true
  | .rdResultSel => true
  | .rdResultLo => true
  | .rdResultHi => true
  | .rdResultIdx => true
  | .rdCntNomatch => true
  | .rdCntCollision => true
  | .rdCntTrunc => true
  | .rdCntChecksum => true
  | .rdCntDecoded => true
  | .rdZero0 => true
  | .rdZero2 => true
  | .rdZero15 => true

end Sys2Proof
end

