-- ==== Sys2Proof/Decode.lean ====
section
/-! DEFINITION. The decoder of host operation words (30_encoding.md R80 to R88), total on all 2^37 words and rejecting a
number that is no such word by name, the encoder, and the opcode table as data. -/

namespace Sys2Proof

/-! ### Fields (R80, R81) -/

/-- W, bit 36: 1 = write. -/
def hopW (h : Hop) : Bool := h.getLsbD 36

/-- A, bits 35:32: the register word index. -/
def hopA (h : Hop) : Addr := h.extractLsb' 32 4

/-- D, bits 31:0: the write data. -/
def hopD (h : Hop) : Word := h.extractLsb' 0 32

/-- A host operation word from its three fields. -/
def hopOf (w : Bool) (a : Addr) (d : Word) : Hop := BitVec.ofBool w ++ a ++ d

/-- CMD = D[3:0] of a CTRL write. -/
def cmdField (d : Word) : BitVec 4 := d.extractLsb' 0 4

/-- BYTE = D[7:0] of a DATA_IN write. -/
def byteField (d : Word) : Byte := d.extractLsb' 0 8

/-! ### Decoding (R83, R85) -/

/-- A CTRL write, by its command code; D[31:4] is ignored (R82, R83). -/
def decodeCommand (cmd : BitVec 4) : Instr :=
  if cmd = 0#4 then .nop
  else if cmd = 1#4 then .clear
  else if cmd = 2#4 then .start
  else if cmd = 3#4 then .rsvdCmd3
  else if cmd.toNat < 8 then .rsvdCmd4 cmd
  else .rsvdCmd8 cmd

/-- A write, by its address (R85). -/
def decodeWrite (a : Addr) (d : Word) : Instr :=
  if a = 0#4 then decodeCommand (cmdField d)
  else if a = 1#4 then .wrIgn1
  else if a = 2#4 then .pushb (byteField d)
  else if a = 3#4 then .wrIgn3
  else if a = 6#4 then .wrsel d
  else if a = 7#4 then .wrIgn7
  else if a.toNat < 8 then .wrIgn4 a
  else .wrIgn8 a

/-- A read, by its address; D is ignored (R85, R86). -/
def decodeRead (a : Addr) : Instr :=
  if a = 0#4 then .rdZero0
  else if a = 1#4 then .rdStatus
  else if a = 2#4 then .rdZero2
  else if a = 3#4 then .rdByteCount
  else if a = 4#4 then .rdRunCount
  else if a = 5#4 then .rdResultCount
  else if a = 6#4 then .rdResultSel
  else if a = 7#4 then .rdResultLo
  else if a = 8#4 then .rdResultHi
  else if a = 9#4 then .rdResultIdx
  else if a = 10#4 then .rdCntNomatch
  else if a = 11#4 then .rdCntCollision
  else if a = 12#4 then .rdCntTrunc
  else if a = 13#4 then .rdCntChecksum
  else if a = 14#4 then .rdCntDecoded
  else .rdZero15

/-- The operation of a host operation word: "The decode of HOP is total" (R88). -/
def decode (h : Hop) : Instr :=
  if hopW h then decodeWrite (hopA h) (hopD h) else decodeRead (hopA h)

/-- Why a number is no host operation word. -/
inductive DecodeError where
  /-- The number has a bit above bit 36 set; HOP has 37 bits (R80). -/
  | moreThan37Bits
  deriving DecidableEq, Repr

/-- The operation a number's bits stand for, bit 0 least significant (R80; log entry 10). -/
def decodeWord (w : Nat) : Except DecodeError Instr :=
  if w < 2 ^ 37 then .ok (decode (BitVec.ofNat 37 w)) else .error .moreThan37Bits

/-- The operation of a row of spec/opcode_table.json whose bits are `w`, of which the table gives `nbits`. -/
def decodeTableWord (nbits w : Nat) : Option Instr :=
  if w < 2 ^ nbits then
    match decodeWord w with
    | .ok i => some i
    | .error _ => none
  else none

/-! ### Encoding: the canonical word, every ignored bit 0 (R86, R90) -/

/-- The word of a CTRL write with command `cmd`. -/
def encodeCommand (cmd : BitVec 4) : Hop := hopOf true 0#4 (cmd.setWidth 32)

/-- The canonical host operation word of an operation, from the columns of R83 and R85. -/
def encode : Instr → Hop
  | .nop => encodeCommand 0#4
  | .clear => encodeCommand 1#4
  | .start => encodeCommand 2#4
  | .rsvdCmd3 => encodeCommand 3#4
  | .rsvdCmd4 cmd => encodeCommand cmd
  | .rsvdCmd8 cmd => encodeCommand cmd
  | .pushb byte => hopOf true 2#4 (byte.setWidth 32)
  | .wrsel sel => hopOf true 6#4 sel
  | .wrIgn1 => hopOf true 1#4 0#32
  | .wrIgn3 => hopOf true 3#4 0#32
  | .wrIgn4 addr => hopOf true addr 0#32
  | .wrIgn7 => hopOf true 7#4 0#32
  | .wrIgn8 addr => hopOf true addr 0#32
  | .rdStatus => hopOf false 1#4 0#32
  | .rdByteCount => hopOf false 3#4 0#32
  | .rdRunCount => hopOf false 4#4 0#32
  | .rdResultCount => hopOf false 5#4 0#32
  | .rdResultSel => hopOf false 6#4 0#32
  | .rdResultLo => hopOf false 7#4 0#32
  | .rdResultHi => hopOf false 8#4 0#32
  | .rdResultIdx => hopOf false 9#4 0#32
  | .rdCntNomatch => hopOf false 10#4 0#32
  | .rdCntCollision => hopOf false 11#4 0#32
  | .rdCntTrunc => hopOf false 12#4 0#32
  | .rdCntChecksum => hopOf false 13#4 0#32
  | .rdCntDecoded => hopOf false 14#4 0#32
  | .rdZero0 => hopOf false 0#4 0#32
  | .rdZero2 => hopOf false 2#4 0#32
  | .rdZero15 => hopOf false 15#4 0#32

/-! ### The opcode table -/

/-- A row's two words of spec/opcode_table.json: `h` belongs to the row when `h &&& mask = pattern`. -/
structure OpcodeRow where
  pattern : Hop
  mask : Hop
  deriving DecidableEq, Repr

/-- The word belongs to the row. -/
def OpcodeRow.holds (r : OpcodeRow) (h : Hop) : Bool := h &&& r.mask == r.pattern

/-- The rows of CTRL commands. -/
def commandRows : List OpcodeRow :=
  [⟨0x1000000000#37, 0x1f0000000f#37⟩, ⟨0x1000000001#37, 0x1f0000000f#37⟩, ⟨0x1000000002#37, 0x1f0000000f#37⟩,
   ⟨0x1000000003#37, 0x1f0000000f#37⟩, ⟨0x1000000004#37, 0x1f0000000c#37⟩, ⟨0x1000000008#37, 0x1f00000008#37⟩]

/-- The rows of the other writes. -/
def writeRows : List OpcodeRow :=
  [⟨0x1200000000#37, 0x1f00000000#37⟩, ⟨0x1600000000#37, 0x1f00000000#37⟩, ⟨0x1100000000#37, 0x1f00000000#37⟩,
   ⟨0x1300000000#37, 0x1f00000000#37⟩, ⟨0x1400000000#37, 0x1e00000000#37⟩, ⟨0x1700000000#37, 0x1f00000000#37⟩,
   ⟨0x1800000000#37, 0x1800000000#37⟩]

/-- The rows of the reads. -/
def readRows : List OpcodeRow :=
  [⟨0x0100000000#37, 0x1f00000000#37⟩, ⟨0x0300000000#37, 0x1f00000000#37⟩, ⟨0x0400000000#37, 0x1f00000000#37⟩,
   ⟨0x0500000000#37, 0x1f00000000#37⟩, ⟨0x0600000000#37, 0x1f00000000#37⟩, ⟨0x0700000000#37, 0x1f00000000#37⟩,
   ⟨0x0800000000#37, 0x1f00000000#37⟩, ⟨0x0900000000#37, 0x1f00000000#37⟩, ⟨0x0a00000000#37, 0x1f00000000#37⟩,
   ⟨0x0b00000000#37, 0x1f00000000#37⟩, ⟨0x0c00000000#37, 0x1f00000000#37⟩, ⟨0x0d00000000#37, 0x1f00000000#37⟩,
   ⟨0x0e00000000#37, 0x1f00000000#37⟩, ⟨0x0000000000#37, 0x1f00000000#37⟩, ⟨0x0200000000#37, 0x1f00000000#37⟩,
   ⟨0x0f00000000#37, 0x1f00000000#37⟩]

/-- All 29 rows of spec/opcode_table.json, in its order. -/
def opcodeRows : List OpcodeRow := commandRows ++ writeRows ++ readRows

/-- The place of an operation's row in the table. -/
def Instr.rowIndex : Instr → Nat
  | .nop => 0
  | .clear => 1
  | .start => 2
  | .rsvdCmd3 => 3
  | .rsvdCmd4 _ => 4
  | .rsvdCmd8 _ => 5
  | .pushb _ => 6
  | .wrsel _ => 7
  | .wrIgn1 => 8
  | .wrIgn3 => 9
  | .wrIgn4 _ => 10
  | .wrIgn7 => 11
  | .wrIgn8 _ => 12
  | .rdStatus => 13
  | .rdByteCount => 14
  | .rdRunCount => 15
  | .rdResultCount => 16
  | .rdResultSel => 17
  | .rdResultLo => 18
  | .rdResultHi => 19
  | .rdResultIdx => 20
  | .rdCntNomatch => 21
  | .rdCntCollision => 22
  | .rdCntTrunc => 23
  | .rdCntChecksum => 24
  | .rdCntDecoded => 25
  | .rdZero0 => 26
  | .rdZero2 => 27
  | .rdZero15 => 28

end Sys2Proof
end

