-- ==== Sys2Proof/Machine/State.lean ====
section
/-! DEFINITION. The machine's state as plain data (10_state.md R46), its value after reset (70_reset_and_hazards.md R282),
and the reasons a step can stop. -/

namespace Sys2Proof.Machine

/-- A byte memory: (address, byte) pairs, addresses strictly rising (`Memory.wf`). An address that is not listed has NO
value: the contents of CAPBUF that nothing has written are unspecified (10_state.md R40; log entry 3). -/
abbrev Memory := List Host.Cell

/-- A run record `(lvl, dur)`: the level after a transition, 1 being `true`, and the distance from the previous
transition (00_scope.md R13, 41_run_length.md R111, R113). -/
structure Run where
  lvl : Bool
  dur : Nat
  deriving DecidableEq, Repr

/-- An entry of RESMEM: the payload `V` and the run index `I` of its sync run (10_state.md R42). -/
structure Result where
  payload : Payload
  index : Nat
  deriving DecidableEq, Repr

/-- The five outcome counters CNT_DECODED, CNT_NOMATCH, CNT_COLLISION, CNT_TRUNC, CNT_CHECKSUM (10_state.md R33 to R37),
in the order of the outcome codes (60_exceptions.md R251). -/
structure Counters where
  decoded : Nat
  noMatch : Nat
  collision : Nat
  truncated : Nat
  checksum : Nat
  deriving DecidableEq, Repr

/-- All counters 0. -/
def Counters.zero : Counters := ⟨0, 0, 0, 0, 0⟩

/-- The sequencer's phase (10_state.md R43). -/
inductive Phase where
  | idle
  | scanning
  deriving DecidableEq, Repr

/-- One clock cycle as the block's environment presents it: the input ports of 10_state.md R20, and where in time the
sequencer's completion falls (20_memory.md R71 item 3: "A model may interleave completion at any point between START and
the LAT_MAX bound"). -/
structure Cycle where
  /-- `rst`. -/
  rst : Bool
  /-- `bus_sel`: a host transaction is presented in this cycle. -/
  busSel : Bool
  /-- `bus_we`: 1 = write. -/
  busWe : Bool
  /-- `bus_addr`. -/
  busAddr : Addr
  /-- `bus_wdata`. -/
  busWdata : Word
  /-- If a scan is in progress at the start of this cycle, it completes at this cycle's ending edge (log entry 2). -/
  finish : Bool
  deriving DecidableEq, Repr

/-- The machine's state. The first thirteen fields are the record of 10_state.md R46, `rdata` is the output port
`bus_rdata` (R20), and the last four are the model's own: the block's environment and the model's bookkeeping. -/
structure State where
  /-- BYTE_COUNT, `BC` (R26). -/
  bc : Nat
  /-- CAPBUF (R40). -/
  capbuf : Memory
  /-- STATUS.BUSY (R24), 1 exactly when PHASE = SCANNING (R43). -/
  busy : Bool
  /-- STATUS.DONE (R24), which is also the output port `done` (R20). -/
  done : Bool
  /-- STATUS.CAP_OVF (R24). -/
  capOvf : Bool
  /-- STATUS.RES_OVF (R24). -/
  resOvf : Bool
  /-- STATUS.ACC_ERR (R24). -/
  accErr : Bool
  /-- RUN_COUNT, `RC` (R27). -/
  rc : Nat
  /-- RUNS (R41). -/
  runs : List Run
  /-- RESULT_COUNT, `RESN` (R28). -/
  resn : Nat
  /-- RESMEM (R42). -/
  resmem : List Result
  /-- CNT_NOMATCH to CNT_DECODED (R33 to R37). -/
  cnt : Counters
  /-- RESULT_SEL, `SEL` (R29). -/
  sel : Word
  /-- The port `bus_rdata` in the cycle just executed (R20, R21; 0 at reset: log entry 9). -/
  rdata : Word
  /-- MODEL's own: the cycles still to come, the next one first (log entries 1 and 2). -/
  pending : List Cycle
  /-- MODEL's own: the values the host's reads have returned, the first one first (70_reset_and_hazards.md R293;
  log entry 9). -/
  returned : List Word
  /-- MODEL's own: the clock cycles a scan has been in progress (70_reset_and_hazards.md R291; log entry 2). -/
  elapsed : Nat
  /-- MODEL's own: how many free values have been drawn (log entries 2 and 5). -/
  draws : Nat
  deriving DecidableEq, Repr

/-- The state after reset (70_reset_and_hazards.md R282). The memories' contents are unspecified, so nothing is listed. -/
def State.reset : State where
  bc := 0
  capbuf := []
  busy := false
  done := false
  capOvf := false
  resOvf := false
  accErr := false
  rc := 0
  runs := []
  resn := 0
  resmem := []
  cnt := Counters.zero
  sel := 0#32
  rdata := 0#32
  pending := []
  returned := []
  elapsed := 0
  draws := 0

/-- The faults of the machine: NONE. "The block never traps, halts, hangs or signals an exception"
(60_exceptions.md R250), so this type has no constructor and no step can raise one (safe). -/
inductive Fault where
  deriving DecidableEq, Repr

/-- The refusals of the machine. -/
inductive Refusal where
  /-- An instruction without a meaning, raised by an arm of `exec` that rejects it by name (safe). No arm does: every
  instruction of the opcode table has its meaning, and no word is refused at the bus (30_encoding.md R87). -/
  | notModelled (mnemonic : String)
  deriving DecidableEq, Repr

end Sys2Proof.Machine
end

