-- ==== Sys2Proof/Machine/Flags.lean ====
section
/-! DEFINITION. The flags of STATUS (10_state.md R24): the word a read returns, the phase, the `done` line, and the writes
that set a flag. -/

namespace Sys2Proof.Machine

/-- The STATUS word: ACC_ERR in bit 4, RES_OVF in bit 3, CAP_OVF in bit 2, DONE in bit 1, BUSY in bit 0, bits 31:5 = 0
(46_host_operations.md R218). -/
def State.statusWord (s : State) : Word :=
  0#27 ++ BitVec.ofBool s.accErr ++ BitVec.ofBool s.resOvf ++ BitVec.ofBool s.capOvf ++ BitVec.ofBool s.done
    ++ BitVec.ofBool s.busy

/-- PHASE: SCANNING exactly when BUSY = 1 (10_state.md R43). -/
def State.phase (s : State) : Phase := if s.busy then .scanning else .idle

/-- The output port `done`, equal to STATUS.DONE at all times (10_state.md R20, 60_exceptions.md R265). -/
def State.doneLine (s : State) : Bool := s.done

/-- STATUS.ACC_ERR <- 1, the whole effect of a rejected host write (60_exceptions.md R257, R261). -/
def State.rejectWrite (s : State) : State := { s with accErr := true }

/-- STATUS.CAP_OVF <- 1, the whole effect of a byte dropped because CAPBUF is full (60_exceptions.md R258). -/
def State.dropByte (s : State) : State := { s with capOvf := true }

end Sys2Proof.Machine
end

