-- ==== Sys2Proof/Machine/Operands.lean ====
section
/-! DEFINITION. The words the registers show (10_state.md R26 to R37): counts as unsigned words, and the windows onto
RESMEM. No operand and no register is signed or scaled (00_scope.md R10, 30_encoding.md R81). -/

namespace Sys2Proof.Machine

/-- A count as a 32-bit register word; 00_scope.md R9 bounds every count below 2^31. -/
def countWord (n : Nat) : Word := BitVec.ofNat 32 n

/-- V[31:0] (20_memory.md R64). -/
def payloadLow (v : Payload) : Word := v.extractLsb' 0 32

/-- V[39:32] in bits 7:0, zero-extended (20_memory.md R64). -/
def payloadHigh (v : Payload) : Word := (v.extractLsb' 32 8).setWidth 32

/-- Entry `k` of RESMEM; an entry nothing has written is unspecified (10_state.md R42; log entry 4). -/
def State.resultEntry (s : State) (k : Nat) : Result :=
  (s.resmem[k]?).getD ⟨Config.unwrittenPayload k, Config.unwrittenIndex k⟩

/-- A window onto RESMEM: a word of entry SEL if SEL < RESN, otherwise 0 (10_state.md R30 to R32). -/
def State.window (s : State) (f : Result → Word) : Word :=
  if s.sel.toNat < s.resn then f (s.resultEntry s.sel.toNat) else 0#32

/-- BYTE_COUNT (R26). -/
def State.byteCountWord (s : State) : Word := countWord s.bc

/-- RUN_COUNT (R27). -/
def State.runCountWord (s : State) : Word := countWord s.rc

/-- RESULT_COUNT (R28). -/
def State.resultCountWord (s : State) : Word := countWord s.resn

/-- RESULT_LO (R30). -/
def State.resultLoWord (s : State) : Word := s.window fun r => payloadLow r.payload

/-- RESULT_HI (R31). -/
def State.resultHiWord (s : State) : Word := s.window fun r => payloadHigh r.payload

/-- RESULT_IDX (R32). -/
def State.resultIdxWord (s : State) : Word := s.window fun r => countWord r.index

end Sys2Proof.Machine
end

