-- ==== Sys2Proof/Machine/Constants.lean ====
section
/-! DEFINITION. The named constants of 00_scope.md R6. The three thresholds are separate names of one value (R7). -/

namespace Sys2Proof.Machine

/-- The sync run needs duration ≥ 30 (R131). -/
def tSyncMin : Nat := 30

/-- Each of the 16 preamble pair runs needs duration ≤ 30 (R132). -/
def tShortMax : Nat := 30

/-- A run with duration > 30 is a toggle, one ≤ 30 a hold (R153, R154). -/
def tToggle : Nat := 30

/-- The (low, high) pairs after the sync run (R132). -/
def nPairs : Nat := 8

/-- 1 + 2·N_PAIRS, the runs one match consumes (R134). -/
def preambleRuns : Nat := 17

/-- The constant 1 bits at the head of the logical bit sequence (R151). -/
def nHeader : Nat := 9

/-- The length of the logical bit sequence (R152). -/
def nLb : Nat := 64

/-- N_LB − N_HEADER, the bits after the header (R171). -/
def nBody : Nat := 55

/-- The bits per nibble group: 4 data and 1 parity (R172). -/
def groupW : Nat := 5

/-- The nibble groups per frame (R172). -/
def nGroups : Nat := 10

/-- The body index of the framing bit, which must be 0 (R175). -/
def framingIndex : Nat := 54

/-- The payload width in bits, N_GROUPS·4 (R174). -/
def payloadW : Nat := 40

end Sys2Proof.Machine
end

