-- ==== Sys2Proof/Machine/Expander.lean ====
section
/-! DEFINITION. BitExpander: the captured bytes into samples, most significant bit first (40_bit_expander.md). -/

namespace Sys2Proof.Machine

/-- The eight samples of one byte: sample `m` is bit `7 − m` (R101). -/
def byteSamples (b : Byte) : List Bool :=
  [b.getLsbD 7, b.getLsbD 6, b.getLsbD 5, b.getLsbD 4, b.getLsbD 3, b.getLsbD 2, b.getLsbD 1, b.getLsbD 0]

/-- EXPAND: the sample sequence of a capture (R101). -/
def expand : List Byte → List Bool
  | [] => []
  | b :: bs => byteSamples b ++ expand bs

end Sys2Proof.Machine
end

