-- ==== Sys2Proof/Machine/PayloadDecoder.lean ====
section
/-! DEFINITION. PayloadDecoder (44_payload_decoder.md R178). -/

namespace Sys2Proof.Machine

/-- The exclusive-or of a group's five bits (R172). -/
def groupParity (b0 b1 b2 b3 b4 : Bool) : Bool := b0 ^^ b1 ^^ b2 ^^ b3 ^^ b4

/-- The nibble 8·b0 + 4·b1 + 2·b2 + b3 of a group (R173), as a payload value. -/
def groupNibble (b0 b1 b2 b3 : Bool) : Payload :=
  BitVec.ofNat payloadW (8 * b0.toNat + 4 * b1.toNat + 2 * b2.toNat + b3.toNat)

/-- The loop of R178 over `g` groups still to come at the head of the bits, with the payload `v` so far: nothing on an odd
parity (R172), and nothing where the bits do not reach (which 64 bits always do). -/
def decodeGroups : Nat → List Bool → Payload → Option Payload
  | 0, _, v => some v
  | g + 1, b0 :: b1 :: b2 :: b3 :: b4 :: rest, v =>
    if groupParity b0 b1 b2 b3 b4 then none
    else decodeGroups g rest ((v <<< 4) ||| groupNibble b0 b1 b2 b3)
  | _ + 1, _, _ => none

/-- DECODE(LB): the payload, or nothing for the outcome CHECKSUM. The header is dropped unchecked (R171), then come the
groups, then the framing bit, which must be 0 (R175); body[50..53] is never read (R176). -/
def decodePayload (lb : List Bool) : Option Payload :=
  let body := lb.drop nHeader
  match decodeGroups nGroups body 0#40 with
  | none => none
  | some v => if body[framingIndex]? = some false then some v else none

end Sys2Proof.Machine
end

