-- ==== Sys2Proof/Machine/Preamble.lean ====
section
/-! DEFINITION. PreambleMatcher (42_preamble_matcher.md), with the pattern as data (R136). -/

namespace Sys2Proof.Machine

/-- How a pattern entry compares a run's duration (R7: the operators are kept exactly). -/
inductive DurTest where
  /-- `dur ≥ n`. -/
  | atLeast (n : Nat)
  /-- `dur ≤ n`. -/
  | atMost (n : Nat)
  deriving DecidableEq, Repr

/-- An entry of the pattern table: the level and the duration it requires (R136). -/
structure PatternEntry where
  lvl : Bool
  test : DurTest
  deriving DecidableEq, Repr

/-- The duration passes the comparison. -/
def DurTest.holds (t : DurTest) (dur : Nat) : Bool :=
  match t with
  | .atLeast n => decide (n ≤ dur)
  | .atMost n => decide (dur ≤ n)

/-- The run passes the entry. -/
def PatternEntry.holds (e : PatternEntry) (r : Run) : Bool := r.lvl == e.lvl && e.test.holds r.dur

/-- The `k` (low, high) pairs of the pattern. -/
def pairEntries : Nat → List PatternEntry
  | 0 => []
  | k + 1 => ⟨false, .atMost tShortMax⟩ :: ⟨true, .atMost tShortMax⟩ :: pairEntries k

/-- The pattern table: the sync entry and N_PAIRS pairs, 17 entries by offset (R136). -/
def preamblePattern : List PatternEntry := ⟨true, .atLeast tSyncMin⟩ :: pairEntries nPairs

/-- The runs from index `k` on pass the entries one by one, in ascending order; a run that does not exist passes none
(R131 to R133). -/
def patternHolds (runs : List Run) : List PatternEntry → Nat → Bool
  | [], _ => true
  | e :: es, k =>
    match runs[k]? with
    | none => false
    | some r => e.holds r && patternHolds runs es (k + 1)

/-- MATCH(st): the index after the 17 matched runs, or no match (R134, R136). -/
def matchPreamble (runs : List Run) (st : Nat) : Option Nat :=
  if patternHolds runs preamblePattern st then some (st + preambleRuns) else none

end Sys2Proof.Machine
end

