-- ==== Sys2Proof/Machine/Reconstructor.lean ====
section
/-! DEFINITION. BitReconstructor (43_bit_reconstructor.md R158). -/

namespace Sys2Proof.Machine

/-- The two failures of RECON (60_exceptions.md R253, R254). -/
inductive ReconFailure where
  | collision
  | truncated
  deriving DecidableEq, Repr

/-- The loop of R158 with `k` bits still to collect, the current bit `cur` and the cursor `j`: the bits it appends.
A toggle consumes one run (R153); a hold appends, then peeks, then consumes two, also for the last bit (R154, R155). -/
def reconLoop (runs : List Run) : Nat → Bool → Nat → Except ReconFailure (List Bool)
  | 0, _, _ => .ok []
  | k + 1, cur, j =>
    match runs[j]? with
    | none => .error .truncated
    | some r =>
      if tToggle < r.dur then (reconLoop runs k (!cur) (j + 1)).map ((!cur) :: ·)
      else
        match runs[j + 1]? with
        | none => .error .truncated
        | some peek =>
          if tToggle < peek.dur then .error .collision
          else (reconLoop runs k cur (j + 2)).map (cur :: ·)

/-- RECON(p): the 64-bit logical bit sequence, LB[0] first: the header of nine 1 bits (R151), then 55 body bits (R152). -/
def recon (runs : List Run) (p : Nat) : Except ReconFailure (List Bool) :=
  (reconLoop runs (nLb - nHeader) true p).map (List.replicate nHeader true ++ ·)

end Sys2Proof.Machine
end

