-- ==== Sys2Proof/Machine/RunLength.lean ====
section
/-! DEFINITION. RunLengthEncoder: the samples into runs (41_run_length.md). -/

namespace Sys2Proof.Machine

/-- The loop of R111 from sample index `i` on: the samples from `i` on are the list, `prev` is the index of the previous
transition. -/
def rleFrom (prev i : Nat) : List Bool → List Run
  | a :: b :: rest =>
    if a = b then rleFrom prev (i + 1) (b :: rest)
    else ⟨b, i - prev⟩ :: rleFrom i (i + 1) (b :: rest)
  | _ => []

/-- RLE: the run sequence of a sample sequence; `prev` "starts at 0 before the first transition" (R111). -/
def rle (samples : List Bool) : List Run := rleFrom 0 0 samples

end Sys2Proof.Machine
end

