-- ==== Sys2Proof/Machine/Scan.lean ====
section
/-! DEFINITION. ScanOrchestrator: attempts, the scan, and the function of the captured bytes the block computes
(45_scan_orchestrator.md R190 to R194, 00_scope.md R3). -/

namespace Sys2Proof.Machine

/-- The outcome of one attempt (60_exceptions.md R251). -/
inductive AttemptOutcome where
  | decoded (payload : Payload)
  | noMatch
  | collision
  | truncated
  | checksum
  deriving DecidableEq, Repr

/-- The outcome's code (60_exceptions.md R251). -/
def AttemptOutcome.code : AttemptOutcome → Nat
  | .decoded _ => 0
  | .noMatch => 1
  | .collision => 2
  | .truncated => 3
  | .checksum => 4

/-- The outcome of an attempt whose reconstruction failed. -/
def ReconFailure.outcome : ReconFailure → AttemptOutcome
  | .collision => .collision
  | .truncated => .truncated

/-- One attempt at run index `i`: the three stages in sequence, the first that fails deciding (R191). -/
def attempt (runs : List Run) (i : Nat) : AttemptOutcome :=
  match matchPreamble runs i with
  | none => .noMatch
  | some p =>
    match recon runs p with
    | .error e => e.outcome
    | .ok lb =>
      match decodePayload lb with
      | none => .checksum
      | some v => .decoded v

/-- The outcomes of the attempts at 0, 1, …, RC − 1, in that order (R190). -/
def attempts (runs : List Run) : List AttemptOutcome := (List.range runs.length).map (attempt runs)

/-- The result an attempt at `i` yields, if it decoded. -/
def AttemptOutcome.result? (o : AttemptOutcome) (i : Nat) : Option Result :=
  match o with
  | .decoded v => some ⟨v, i⟩
  | .noMatch => none
  | .collision => none
  | .truncated => none
  | .checksum => none

/-- The scan's results, in ascending run index (R190, R192). -/
def scanResults (runs : List Run) : List Result :=
  (List.range runs.length).filterMap fun i => (attempt runs i).result? i

/-- How many outcomes have the code. -/
def countCode (outcomes : List AttemptOutcome) (code : Nat) : Nat := outcomes.countP fun o => o.code == code

/-- The counters of a list of outcomes (R190). -/
def countersOf (outcomes : List AttemptOutcome) : Counters where
  decoded := countCode outcomes 0
  noMatch := countCode outcomes 1
  collision := countCode outcomes 2
  truncated := countCode outcomes 3
  checksum := countCode outcomes 4

/-- The scan's counters (R190). -/
def scanCounters (runs : List Run) : Counters := countersOf (attempts runs)

/-- The run sequence of a capture, steps 1 and 2 of a scan (R194). -/
def captureRuns (bytes : List Byte) : List Run := rle (expand bytes)

/-- What the block computes: `Scan(RLE(Expand(B)))` (00_scope.md R3). -/
def scanCapture (bytes : List Byte) : List Result := scanResults (captureRuns bytes)

end Sys2Proof.Machine
end

