-- ==== Sys2Proof/Machine/Ops.lean ====
section
/-! DEFINITION. The shared operations: CAPBUF's memory, the capture, reads, the commands, completion, the reset edge, and
what a clock cycle does around the host's transaction. An operation that depends on a parameter of 00_scope.md R8 takes the
parameters as an argument. -/

namespace Sys2Proof.Machine

/-! ### Memory -/

/-- The byte at an address, or nothing where the memory lists none. -/
def Memory.read (m : Memory) (a : Nat) : Option Byte :=
  match m with
  | [] => none
  | (b, v) :: rest => if b = a then some v else Memory.read rest a

/-- The memory with one byte written, the addresses still rising. -/
def Memory.write (m : Memory) (a : Nat) (v : Byte) : Memory :=
  match m with
  | [] => [(a, v)]
  | (b, w) :: rest =>
    if a < b then (a, v) :: (b, w) :: rest
    else if a = b then (a, v) :: rest
    else (b, w) :: Memory.write rest a v

/-- Every listed address is at least `low`, and they rise strictly. -/
def Memory.risesFrom (low : Nat) : Memory → Bool
  | [] => true
  | (a, _) :: rest => decide (low ≤ a) && Memory.risesFrom (a + 1) rest

/-- The canonical form: addresses strictly rising. An unlisted address has no value, so no entry can equal what one
reads as. -/
def Memory.wf (m : Memory) : Bool := Memory.risesFrom 0 m

/-! ### The capture -/

/-- CAPBUF[k] as the scan reads it; a byte nothing has written is unspecified (10_state.md R40; log entry 3). -/
def State.captureByte (s : State) (k : Nat) : Byte := (s.capbuf.read k).getD (Config.unwrittenByte k)

/-- The capture CAPBUF[0..BC−1], in the order written (20_memory.md R62). -/
def State.capture (s : State) : List Byte := (List.range s.bc).map s.captureByte

/-- A byte appended to the capture, as CAPBUF[BC] (46_host_operations.md R215, 20_memory.md R61). -/
def State.appendByte (byte : Byte) (s : State) : State :=
  { s with capbuf := s.capbuf.write s.bc byte, bc := s.bc + 1 }

/-- PUSHB's effect (46_host_operations.md R215): BUSY is checked before fullness (60_exceptions.md R261). -/
def State.pushByte (P : Params) (byte : Byte) (s : State) : State :=
  if s.busy then s.rejectWrite
  else if s.bc = P.capBytes then s.dropByte
  else s.appendByte byte

/-! ### Commands -/

/-- What an accepted CLEAR does (46_host_operations.md R212). CAPBUF's contents become unspecified, and RUNS and RESMEM
hold nothing that can be observed: nothing is listed (log entries 3 and 4). -/
def State.clearAll (s : State) : State :=
  { s with
    bc := 0, capbuf := [], rc := 0, runs := [], resn := 0, resmem := [], sel := 0#32, cnt := Counters.zero
    done := false, capOvf := false, resOvf := false, accErr := false }

/-- CLEAR's effect (46_host_operations.md R212). -/
def State.clear (s : State) : State := if s.busy then s.rejectWrite else s.clearAll

/-- What an accepted START does (46_host_operations.md R213); the model's count of the scan's cycles starts. -/
def State.beginScan (s : State) : State := { s with busy := true, done := false, resOvf := false, elapsed := 0 }

/-- START's effect (46_host_operations.md R213). -/
def State.start (s : State) : State := if s.busy then s.rejectWrite else s.beginScan

/-- WRSEL's effect (46_host_operations.md R216). -/
def State.select (sel : Word) (s : State) : State := { s with sel := sel }

/-! ### Reads -/

/-- A read returns a word: it is on `bus_rdata` in this cycle (10_state.md R21), and the host has it. -/
def State.answer (w : Word) (s : State) : State := { s with rdata := w, returned := s.returned ++ [w] }

/-- The next free value is used up. -/
def State.draw (s : State) : State := { s with draws := s.draws + 1 }

/-- A read of a register that is unspecified while BUSY = 1: then a fresh free value, every bit of it open, else the
register's word (70_reset_and_hazards.md R286; log entry 5). -/
def State.answerResult (w : Word) (s : State) : State :=
  if s.busy then s.draw.answer (Config.freeRead s.draws) else s.answer w

/-! ### Completion -/

/-- The completion, atomic at one clock edge (45_scan_orchestrator.md R194; log entry 7). -/
def State.complete (P : Params) (s : State) : State :=
  let runs := captureRuns s.capture
  let results := scanResults runs
  { s with
    rc := runs.length, runs := runs
    resmem := results.take P.capResults, resn := min results.length P.capResults
    cnt := scanCounters runs, resOvf := decide (P.capResults < results.length)
    busy := false, done := true, elapsed := 0 }

/-- A scan in progress is one clock cycle older. -/
def State.age (s : State) : State := { s with elapsed := s.elapsed + 1 }

/-- The sequencer at the edge that ends a cycle with BUSY = 1 at its start: the scan completes if its completion falls
here, and at the latest when LAT_MAX cycles have passed since START (70_reset_and_hazards.md R291). -/
def State.scanEdge (P : Params) (finish : Bool) (s : State) : State :=
  if finish || decide (P.latMax s.bc ≤ s.elapsed + 1) then s.complete P else s.age

/-- The sequencer at the edge that ends a cycle, after the cycle's host transaction (60_exceptions.md R262); `wasBusy` is
BUSY at the start of the cycle. -/
def State.sequencerEdge (P : Params) (wasBusy finish : Bool) (s : State) : State :=
  if wasBusy then s.scanEdge P finish else s

/-! ### Clock cycles -/

/-- The host operation word on the bus pins (30_encoding.md R80). -/
def Cycle.hop (c : Cycle) : Hop := hopOf c.busWe c.busAddr c.busWdata

/-- A cycle without reset and without a transaction. -/
def Cycle.idle (finish : Bool) : Cycle := ⟨false, false, false, 0#4, 0#32, finish⟩

/-- A cycle that carries the transaction of a host operation word. -/
def Cycle.ofHop (h : Hop) (finish : Bool) : Cycle := ⟨false, true, hopW h, hopA h, hopD h, finish⟩

/-- The cycle the next step executes: the first of the list; where the host has presented nothing more, an idle cycle,
with the place of a completion left free (log entries 1 and 2). -/
def State.currentCycle (s : State) : Cycle :=
  match s.pending with
  | [] => Cycle.idle (Config.freeFinish s.draws)
  | c :: _ => c

/-- A free value is drawn for the place of completion where the list is empty and a scan is in progress. -/
def State.cycleDraws (s : State) : Nat := if s.pending.isEmpty && s.busy then s.draws + 1 else s.draws

/-- The state in which the cycle's transaction runs: the cycle is taken off the list, and `bus_rdata` is 0 unless the
transaction is a read (10_state.md R21). -/
def State.beginCycle (s : State) : State :=
  { s with pending := s.pending.tail, rdata := 0#32, draws := s.cycleDraws }

/-- The values the host's reads have returned after a reset cycle: a read returns 0 (70_reset_and_hazards.md R281). -/
def State.resetReturned (c : Cycle) (s : State) : List Word :=
  if c.busSel && !c.busWe then s.returned ++ [0#32] else s.returned

/-- A rising edge with `rst = 1` (70_reset_and_hazards.md R280): every register takes its reset value, a scan in progress
is abandoned, and a transaction of that cycle has no effect (R281). The environment's fields go on. -/
def State.resetEdge (c : Cycle) (s : State) : State :=
  { State.reset with pending := s.pending, returned := s.resetReturned c, draws := s.draws }

/-- The transaction of a host operation word presented as the next cycle's, ahead of the cycles still to come. -/
def State.present (h : Hop) (s : State) : State := { s with pending := Cycle.ofHop h false :: s.pending }

end Sys2Proof.Machine
end

