-- ==== Sys2Proof/Machine/Control.lean ====
section
/-! DEFINITION. The meanings of the CTRL commands (46_host_operations.md R210 to R213). -/

namespace Sys2Proof.Machine

/-- NOP (R210): nothing, including while BUSY = 1. -/
def execNop (s : State) : Host.Outcome State Fault Refusal := .next s

/-- CLEAR (R212). -/
def execClear (s : State) : Host.Outcome State Fault Refusal := .next s.clear

/-- START (R213). -/
def execStart (s : State) : Host.Outcome State Fault Refusal := .next s.start

/-- Reserved command 3 (R211): ACC_ERR, whether BUSY is 0 or 1. -/
def execRsvdCmd3 (s : State) : Host.Outcome State Fault Refusal := .next s.rejectWrite

/-- Reserved commands 4 to 7 (R211): ACC_ERR, whichever the command. -/
def execRsvdCmd4 (_cmd : BitVec 4) (s : State) : Host.Outcome State Fault Refusal := .next s.rejectWrite

/-- Reserved commands 8 to 15 (R211): ACC_ERR, whichever the command. -/
def execRsvdCmd8 (_cmd : BitVec 4) (s : State) : Host.Outcome State Fault Refusal := .next s.rejectWrite

end Sys2Proof.Machine
end

