-- ==== Sys2Proof/Machine/DataWrites.lean ====
section
/-! DEFINITION. The meanings of the data writes and the ignored writes (46_host_operations.md R215 to R217). -/

namespace Sys2Proof.Machine

/-- PUSHB (R215), at the machine's CAP_BYTES. -/
def execPushb (byte : Byte) (s : State) : Host.Outcome State Fault Refusal := .next (s.pushByte Config.params byte)

/-- WRSEL (R216): allowed while BUSY = 1, any value. -/
def execWrsel (sel : Word) (s : State) : Host.Outcome State Fault Refusal := .next (s.select sel)

/-- A write to A = 1, STATUS (R217): nothing. -/
def execWrIgn1 (s : State) : Host.Outcome State Fault Refusal := .next s

/-- A write to A = 3, BYTE_COUNT (R217): nothing. -/
def execWrIgn3 (s : State) : Host.Outcome State Fault Refusal := .next s

/-- A write to A = 4 or 5, RUN_COUNT or RESULT_COUNT (R217): nothing. -/
def execWrIgn4 (_addr : Addr) (s : State) : Host.Outcome State Fault Refusal := .next s

/-- A write to A = 7, RESULT_LO (R217): nothing. -/
def execWrIgn7 (s : State) : Host.Outcome State Fault Refusal := .next s

/-- A write to A = 8 to 15 (R217; A = 15 also by 10_state.md R38): nothing. -/
def execWrIgn8 (_addr : Addr) (s : State) : Host.Outcome State Fault Refusal := .next s

end Sys2Proof.Machine
end

