-- ==== Sys2Proof/Machine/Reads.lean ====
section
/-! DEFINITION. The meanings of the reads (46_host_operations.md R218 to R231). -/

namespace Sys2Proof.Machine

/-- RD STATUS (R218): defined at all times. -/
def execRdStatus (s : State) : Host.Outcome State Fault Refusal := .next (s.answer s.statusWord)

/-- RD BYTE_COUNT (R219): defined at all times. -/
def execRdByteCount (s : State) : Host.Outcome State Fault Refusal := .next (s.answer s.byteCountWord)

/-- RD RUN_COUNT (R220). -/
def execRdRunCount (s : State) : Host.Outcome State Fault Refusal := .next (s.answerResult s.runCountWord)

/-- RD RESULT_COUNT (R221). -/
def execRdResultCount (s : State) : Host.Outcome State Fault Refusal :=
  .next (s.answerResult s.resultCountWord)

/-- RD RESULT_SEL (R222): defined at all times. -/
def execRdResultSel (s : State) : Host.Outcome State Fault Refusal := .next (s.answer s.sel)

/-- RD RESULT_LO (R223). -/
def execRdResultLo (s : State) : Host.Outcome State Fault Refusal := .next (s.answerResult s.resultLoWord)

/-- RD RESULT_HI (R224); while BUSY = 1 the whole word is unspecified (log entry 8). -/
def execRdResultHi (s : State) : Host.Outcome State Fault Refusal := .next (s.answerResult s.resultHiWord)

/-- RD RESULT_IDX (R225). -/
def execRdResultIdx (s : State) : Host.Outcome State Fault Refusal := .next (s.answerResult s.resultIdxWord)

/-- RD CNT_NOMATCH (R226). -/
def execRdCntNomatch (s : State) : Host.Outcome State Fault Refusal :=
  .next (s.answerResult (countWord s.cnt.noMatch))

/-- RD CNT_COLLISION (R227). -/
def execRdCntCollision (s : State) : Host.Outcome State Fault Refusal :=
  .next (s.answerResult (countWord s.cnt.collision))

/-- RD CNT_TRUNC (R228). -/
def execRdCntTrunc (s : State) : Host.Outcome State Fault Refusal :=
  .next (s.answerResult (countWord s.cnt.truncated))

/-- RD CNT_CHECKSUM (R229). -/
def execRdCntChecksum (s : State) : Host.Outcome State Fault Refusal :=
  .next (s.answerResult (countWord s.cnt.checksum))

/-- RD CNT_DECODED (R230). -/
def execRdCntDecoded (s : State) : Host.Outcome State Fault Refusal :=
  .next (s.answerResult (countWord s.cnt.decoded))

/-- A read of A = 0, CTRL, write-only (R231): 0, including while BUSY = 1. -/
def execRdZero0 (s : State) : Host.Outcome State Fault Refusal := .next (s.answer 0#32)

/-- A read of A = 2, DATA_IN, write-only (R231): 0, including while BUSY = 1. -/
def execRdZero2 (s : State) : Host.Outcome State Fault Refusal := .next (s.answer 0#32)

/-- A read of A = 15, reserved (R231, 10_state.md R38): 0, including while BUSY = 1. -/
def execRdZero15 (s : State) : Host.Outcome State Fault Refusal := .next (s.answer 0#32)

end Sys2Proof.Machine
end

