-- ==== Sys2Proof/Machine/Dispatch.lean ====
section
/-! DEFINITION. What each host operation does: one arm per constructor of `Instr`. -/

namespace Sys2Proof.Machine

def exec (i : Instr) (s : State) : Host.Outcome State Fault Refusal :=
  match i with
  | .nop => Sys2Proof.Machine.execNop s
  | .clear => Sys2Proof.Machine.execClear s
  | .start => Sys2Proof.Machine.execStart s
  | .rsvdCmd3 => Sys2Proof.Machine.execRsvdCmd3 s
  | .rsvdCmd4 cmd => Sys2Proof.Machine.execRsvdCmd4 cmd s
  | .rsvdCmd8 cmd => Sys2Proof.Machine.execRsvdCmd8 cmd s
  | .pushb byte => Sys2Proof.Machine.execPushb byte s
  | .wrsel sel => Sys2Proof.Machine.execWrsel sel s
  | .wrIgn1 => Sys2Proof.Machine.execWrIgn1 s
  | .wrIgn3 => Sys2Proof.Machine.execWrIgn3 s
  | .wrIgn4 addr => Sys2Proof.Machine.execWrIgn4 addr s
  | .wrIgn7 => Sys2Proof.Machine.execWrIgn7 s
  | .wrIgn8 addr => Sys2Proof.Machine.execWrIgn8 addr s
  | .rdStatus => Sys2Proof.Machine.execRdStatus s
  | .rdByteCount => Sys2Proof.Machine.execRdByteCount s
  | .rdRunCount => Sys2Proof.Machine.execRdRunCount s
  | .rdResultCount => Sys2Proof.Machine.execRdResultCount s
  | .rdResultSel => Sys2Proof.Machine.execRdResultSel s
  | .rdResultLo => Sys2Proof.Machine.execRdResultLo s
  | .rdResultHi => Sys2Proof.Machine.execRdResultHi s
  | .rdResultIdx => Sys2Proof.Machine.execRdResultIdx s
  | .rdCntNomatch => Sys2Proof.Machine.execRdCntNomatch s
  | .rdCntCollision => Sys2Proof.Machine.execRdCntCollision s
  | .rdCntTrunc => Sys2Proof.Machine.execRdCntTrunc s
  | .rdCntChecksum => Sys2Proof.Machine.execRdCntChecksum s
  | .rdCntDecoded => Sys2Proof.Machine.execRdCntDecoded s
  | .rdZero0 => Sys2Proof.Machine.execRdZero0 s
  | .rdZero2 => Sys2Proof.Machine.execRdZero2 s
  | .rdZero15 => Sys2Proof.Machine.execRdZero15 s

end Sys2Proof.Machine
end

