-- ==== Sys2Proof/Machine/Step.lean ====
section
/-! DEFINITION. One step: one clock cycle with its ending edge (92_eei_decisions.md D2; 70_reset_and_hazards.md R292). -/

namespace Sys2Proof.Machine

/-- The edge that ends a cycle, after what the cycle's transaction answered. -/
def endCycle (wasBusy finish : Bool) (o : Host.Outcome State Fault Refusal) : Host.Outcome State Fault Refusal :=
  match o with
  | .next t => .next (t.sequencerEdge Config.params wasBusy finish)
  | .fault r => .fault r
  | .refused r => .refused r

/-- One clock cycle: with `rst = 1` the reset edge; else the host's transaction, if one is presented, and after it the
sequencer, which completes a scan only if BUSY was 1 at the start of the cycle (10_state.md R21, 60_exceptions.md R262,
70_reset_and_hazards.md R281, R291). -/
def step (s : State) : Host.Outcome State Fault Refusal :=
  let c := s.currentCycle
  if c.rst then .next (s.beginCycle.resetEdge c)
  else if c.busSel then endCycle s.busy c.finish (exec (decode c.hop) s.beginCycle)
  else endCycle s.busy c.finish (.next s.beginCycle)

/-- `s` with the host operation word of `w` on the bus in the next cycle, ahead of the cycles still to come; `nbits` is how
many of the word's bits the opcode table gives, the others being 0 in `w`. -/
def State.withFetchWord (s : State) (_nbits w : Nat) : State := s.present (BitVec.ofNat 37 w)

end Sys2Proof.Machine
end

