-- ==== Sys2Proof/Machine/HostSide.lean ====
section
/-! DEFINITION. What the spec gives the host: the register names (10_state.md R22), the assembly and its pseudo-instructions
(30_encoding.md R89, R90), the sequence that decodes one capture (70_reset_and_hazards.md R284), and the text form of a
payload (46_host_operations.md R232). The block runs none of these: they are words a host presents and text it writes. -/

namespace Sys2Proof.Machine

/-- The named word locations (R22). -/
inductive RegName where
  | ctrl
  | status
  | dataIn
  | byteCount
  | runCount
  | resultCount
  | resultSel
  | resultLo
  | resultHi
  | resultIdx
  | cntNomatch
  | cntCollision
  | cntTrunc
  | cntChecksum
  | cntDecoded
  | reserved15
  deriving DecidableEq, Repr

/-- How a location may be accessed (R22). -/
inductive Access where
  /-- RO: writes are ignored. -/
  | readOnly
  /-- WO: reads return 0. -/
  | writeOnly
  /-- RW. -/
  | readWrite
  /-- Reads return 0 and writes are ignored. -/
  | reserved
  deriving DecidableEq, Repr

/-- The word index `A` of a location (R22). -/
def RegName.addr : RegName → Addr
  | .ctrl => 0#4
  | .status => 1#4
  | .dataIn => 2#4
  | .byteCount => 3#4
  | .runCount => 4#4
  | .resultCount => 5#4
  | .resultSel => 6#4
  | .resultLo => 7#4
  | .resultHi => 8#4
  | .resultIdx => 9#4
  | .cntNomatch => 10#4
  | .cntCollision => 11#4
  | .cntTrunc => 12#4
  | .cntChecksum => 13#4
  | .cntDecoded => 14#4
  | .reserved15 => 15#4

/-- The byte offset 4·A of a location, "given for an SoC that maps the block into a byte-addressed space" (R22). -/
def RegName.byteOffset (r : RegName) : Nat := 4 * r.addr.toNat

/-- The access type of a location (R22). -/
def RegName.access : RegName → Access
  | .ctrl => .writeOnly
  | .status => .readOnly
  | .dataIn => .writeOnly
  | .byteCount => .readOnly
  | .runCount => .readOnly
  | .resultCount => .readOnly
  | .resultSel => .readWrite
  | .resultLo => .readOnly
  | .resultHi => .readOnly
  | .resultIdx => .readOnly
  | .cntNomatch => .readOnly
  | .cntCollision => .readOnly
  | .cntTrunc => .readOnly
  | .cntChecksum => .readOnly
  | .cntDecoded => .readOnly
  | .reserved15 => .reserved

/-- The word a location shows a read while BUSY = 0 (R22 to R38). -/
def State.registerWord (s : State) : RegName → Word
  | .ctrl => 0#32
  | .status => s.statusWord
  | .dataIn => 0#32
  | .byteCount => s.byteCountWord
  | .runCount => s.runCountWord
  | .resultCount => s.resultCountWord
  | .resultSel => s.sel
  | .resultLo => s.resultLoWord
  | .resultHi => s.resultHiWord
  | .resultIdx => s.resultIdxWord
  | .cntNomatch => countWord s.cnt.noMatch
  | .cntCollision => countWord s.cnt.collision
  | .cntTrunc => countWord s.cnt.truncated
  | .cntChecksum => countWord s.cnt.checksum
  | .cntDecoded => countWord s.cnt.decoded
  | .reserved15 => 0#32

/-- All sixteen locations, by address. -/
def RegName.all : List RegName :=
  [.ctrl, .status, .dataIn, .byteCount, .runCount, .resultCount, .resultSel, .resultLo, .resultHi, .resultIdx,
   .cntNomatch, .cntCollision, .cntTrunc, .cntChecksum, .cntDecoded, .reserved15]

/-- `WR <reg>, <imm>` (R89). -/
def wrWord (a : Addr) (imm : Word) : Hop := hopOf true a imm

/-- `RD <reg>` (R89). -/
def rdWord (a : Addr) : Hop := hopOf false a 0#32

/-- The pseudo-instructions (R90). WAITDONE is the host's loop over a poll whose number is not fixed: its one poll stands
here. -/
inductive Pseudo where
  | nop
  | clear
  | start
  | pushb (byte : Byte)
  | load (bytes : List Byte)
  | sel (imm : Word)
  | waitdonePoll
  | rdres (k : Word)
  deriving DecidableEq, Repr

/-- The host operation words a pseudo-instruction expands to (R90). -/
def Pseudo.words : Pseudo → List Hop
  | .nop => [wrWord RegName.ctrl.addr 0#32]
  | .clear => [wrWord RegName.ctrl.addr 1#32]
  | .start => [wrWord RegName.ctrl.addr 2#32]
  | .pushb byte => [wrWord RegName.dataIn.addr (byte.setWidth 32)]
  | .load bytes => bytes.map fun byte => wrWord RegName.dataIn.addr (byte.setWidth 32)
  | .sel imm => [wrWord RegName.resultSel.addr imm]
  | .waitdonePoll => [rdWord RegName.status.addr]
  | .rdres k =>
    [wrWord RegName.resultSel.addr k, rdWord RegName.resultLo.addr, rdWord RegName.resultHi.addr,
     rdWord RegName.resultIdx.addr]

/-- WAITDONE ends on a poll whose value has bit 1, DONE, set (R90). -/
def pollEnds (w : Word) : Bool := w.getLsbD 1

/-- A cycle with `rst = 1` and no transaction, the first of the sequence of R284. -/
def Cycle.resetCycle : Cycle := ⟨true, false, false, 0#4, 0#32, false⟩

/-- Steps 1 to 3 of R284 for one capture: reset, PUSHB each byte in capture order, START. Steps 4 and 5 are polls and
reads. -/
def decodeCaptureCycles (bytes : List Byte) : List Cycle :=
  Cycle.resetCycle :: ((Pseudo.load bytes).words ++ Pseudo.start.words).map fun h => Cycle.ofHop h false

/-- The digits of a number in a base from 2 to 16, most significant first, in front of `acc`; `fuel` digits at most. -/
def digitsOf (base : Nat) : Nat → Nat → List Char → List Char
  | 0, _, acc => acc
  | fuel + 1, n, acc =>
    if n < base then Nat.digitChar n :: acc
    else digitsOf base fuel (n / base) (Nat.digitChar (n % base) :: acc)

/-- What a host writes for a payload: decimal, one space, `0x`, lowercase hexadecimal without leading zeros (R232). -/
def payloadText (v : Payload) : List Char :=
  digitsOf 10 40 v.toNat [] ++ [' ', '0', 'x'] ++ digitsOf 16 40 v.toNat []

end Sys2Proof.Machine
end

