-- ==== Sys2Proof/Machine/Reference.lean ====
section
/-! DEFINITION. The inverse maps and index views that the spec's laws about the datapath speak of. The machine does not run
them: statements compare the stages with them. -/

namespace Sys2Proof.Machine

/-! ### BitExpander (40_bit_expander.md R103) -/

/-- A byte from eight samples, the first as the most significant bit. -/
def packByte (b7 b6 b5 b4 b3 b2 b1 b0 : Bool) : Byte :=
  BitVec.ofBool b7 ++ BitVec.ofBool b6 ++ BitVec.ofBool b5 ++ BitVec.ofBool b4 ++ BitVec.ofBool b3 ++ BitVec.ofBool b2
    ++ BitVec.ofBool b1 ++ BitVec.ofBool b0

/-- Each eight consecutive samples packed into a byte; a rest of fewer than eight is dropped. -/
def repack : List Bool → List Byte
  | b7 :: b6 :: b5 :: b4 :: b3 :: b2 :: b1 :: b0 :: rest => packByte b7 b6 b5 b4 b3 b2 b1 b0 :: repack rest
  | _ => []

/-! ### RunLengthEncoder (41_run_length.md R111, R114, R115) -/

/-- The transition indices `i` with `s[i] ≠ s[i+1]`, ascending (00_scope.md, glossary). -/
def transitions (s : List Bool) : List Nat :=
  (List.range (s.length - 1)).filter fun i => s[i]? != s[i + 1]?

/-- The transition index before the `k`-th, or 0 for the first. -/
def previousTransition (ts : List Nat) (k : Nat) : Nat := if k = 0 then 0 else (ts[k - 1]?).getD 0

/-- Each run's level differs from the level of the run before it. -/
def levelsAlternate : List Run → Bool
  | r :: q :: rest => (q.lvl == !r.lvl) && levelsAlternate (q :: rest)
  | _ => true

/-- A run with its duration stored saturated at 31 (R118). -/
def Run.saturate (r : Run) : Run := { r with dur := min r.dur 31 }

/-! ### BitReconstructor (43_bit_reconstructor.md R159) -/

/-- The classes (long = true) of the runs that encode body bits from the current bit `cur` on: one long run where the bit
differs from `cur`, two short runs otherwise (R159). -/
def bodyClasses (cur : Bool) : List Bool → List Bool
  | [] => []
  | b :: bs => (if b = cur then [false, false] else [true]) ++ bodyClasses b bs

/-! ### PayloadDecoder (44_payload_decoder.md R179) -/

/-- Group `g` of a payload: the four bits of its nibble, most significant first, and their exclusive-or. -/
def payloadGroup (v : Payload) (g : Nat) : List Bool :=
  let b0 := v.getLsbD (39 - 4 * g)
  let b1 := v.getLsbD (38 - 4 * g)
  let b2 := v.getLsbD (37 - 4 * g)
  let b3 := v.getLsbD (36 - 4 * g)
  [b0, b1, b2, b3, b0 ^^ b1 ^^ b2 ^^ b3]

/-- The groups `g`, `g + 1`, … of a payload, `n` of them. -/
def payloadGroups (v : Payload) : Nat → Nat → List Bool
  | 0, _ => []
  | n + 1, g => payloadGroup v g ++ payloadGroups v n (g + 1)

/-- The logical bit sequence of a payload: the header, ten groups, any four bits `c0..c3` at body[50..53], and a framing
bit 0 (R179 item 1). -/
def payloadBits (v : Payload) (c0 c1 c2 c3 : Bool) : List Bool :=
  List.replicate nHeader true ++ (payloadGroups v nGroups 0 ++ [c0, c1, c2, c3, false])

/-- The sequence with the bit at index `k` flipped. -/
def flipAt (k : Nat) (bits : List Bool) : List Bool := bits.modify k (!·)

/-! ### Counters -/

/-- The sum of the five counters (45_scan_orchestrator.md R191). -/
def Counters.total (c : Counters) : Nat := c.decoded + c.noMatch + c.collision + c.truncated + c.checksum

end Sys2Proof.Machine
end

