-- ==== Sys2Proof/Safety.lean ====
section
/-! DEFINITION. What counts as a good state of the block, and what a host observes, in the terms the statements use. -/

namespace Sys2Proof.Machine

/-- The result registers, RUN_COUNT and RESULT_COUNT among them, hold the scan of `bytes`, truncated to CAP_RESULTS entries (45_scan_orchestrator.md R194, R196). -/
def State.HoldsScanOf (s : State) (bytes : List Byte) : Prop :=
  s.rc = (captureRuns bytes).length ∧ s.runs = captureRuns bytes ∧
  s.resn = min (scanCapture bytes).length Config.params.capResults ∧
  s.resmem = (scanCapture bytes).take Config.params.capResults ∧
  s.cnt = scanCounters (captureRuns bytes) ∧
  s.resOvf = decide (Config.params.capResults < (scanCapture bytes).length)

/-- The invariant of the machine: 10_state.md R46 (the lists' lengths) and R47, CAPBUF in its canonical form with exactly
the bytes below BC written (R40, R61), and 70_reset_and_hazards.md R291 (a scan is never older than LAT_MAX). -/
structure State.Inv (s : State) : Prop where
  /-- CAPBUF lists exactly the addresses 0 .. BC − 1, rising. -/
  capbuf : s.capbuf.map Prod.fst = List.range s.bc
  /-- BC ≤ CAP_BYTES. -/
  bc : s.bc ≤ Config.params.capBytes
  /-- RC is the length of RUNS. -/
  rc : s.rc = s.runs.length
  /-- RC fits in the run memory (41_run_length.md R117). -/
  capRuns : s.rc ≤ 8 * Config.params.capBytes - 1
  /-- RESN is the length of RESMEM. -/
  resn : s.resn = s.resmem.length
  /-- RESN = min(CNT_DECODED, CAP_RESULTS). -/
  stored : s.resn = min s.cnt.decoded Config.params.capResults
  /-- The counters sum to RC. -/
  counters : s.cnt.total = s.rc
  /-- Every result's run index is below RC. -/
  indices : ∀ r ∈ s.resmem, r.index < s.rc
  /-- BUSY and DONE are never both 1. -/
  exclusive : ¬(s.busy = true ∧ s.done = true)
  /-- A scan in progress is not yet LAT_MAX cycles old. -/
  inTime : s.busy = true → s.elapsed < Config.params.latMax s.bc
  /-- DONE: the registers hold the scan of the bytes there were at the last START. -/
  scanned : s.done = true → ∃ bc0, bc0 ≤ s.bc ∧ s.HoldsScanOf (s.capture.take bc0)
  /-- Neither DONE nor BUSY: no scan since reset or CLEAR, and the result registers are 0. -/
  fresh : s.busy = false → s.done = false → s.rc = 0
  /-- RES_OVF describes a completed scan only. -/
  resOvf : s.done = false → s.resOvf = false

/-- A run has ended: the host has issued its last transaction and no scan is in progress (70_reset_and_hazards.md R293).
DESIGN CHOICE (log entry 11): idle and reset cycles that the list holds after the last transaction belong to the run, so it
ends only when the list is used up; R293 does not say. -/
def State.Ended (s : State) : Prop := s.pending = [] ∧ s.phase = .idle

/-- What a host has seen of a run that has ended: the value of every register, by address, and the values its reads
returned (70_reset_and_hazards.md R293). -/
structure Observation where
  registers : List Word
  returned : List Word
  deriving DecidableEq, Repr

/-- The observation of a state in which a run has ended. -/
def State.observe (s : State) : Observation := ⟨RegName.all.map s.registerWord, s.returned⟩

/-- `t` has the capture of `s`: BC, and every byte of CAPBUF. -/
def State.SameCapture (s t : State) : Prop := t.bc = s.bc ∧ ∀ a, t.capbuf.read a = s.capbuf.read a

/-- `t` has the results of `s`: RC, RUNS, RESN, RESMEM and the five counters. -/
def State.SameResults (s t : State) : Prop :=
  t.rc = s.rc ∧ t.runs = s.runs ∧ t.resn = s.resn ∧ t.resmem = s.resmem ∧ t.cnt = s.cnt

/-- `t` has the bus side of `s`: the data port, the values returned so far, and the cycles to come. -/
def State.SameBus (s t : State) : Prop := t.rdata = s.rdata ∧ t.returned = s.returned ∧ t.pending = s.pending

/-- The reads of the opcode table (30_encoding.md R85, W = 0). -/
def readInstrs : List Instr :=
  [.rdStatus, .rdByteCount, .rdRunCount, .rdResultCount, .rdResultSel, .rdResultLo, .rdResultHi, .rdResultIdx,
   .rdCntNomatch, .rdCntCollision, .rdCntTrunc, .rdCntChecksum, .rdCntDecoded, .rdZero0, .rdZero2, .rdZero15]

/-- The reads that are unspecified while BUSY = 1 (70_reset_and_hazards.md R286). -/
def resultReads : List Instr :=
  [.rdRunCount, .rdResultCount, .rdResultLo, .rdResultHi, .rdResultIdx, .rdCntNomatch, .rdCntCollision, .rdCntTrunc,
   .rdCntChecksum, .rdCntDecoded]

end Sys2Proof.Machine

namespace Sys2Proof

/-- A reserved command (30_encoding.md R87 class 1). -/
def Instr.isReserved : Instr → Bool
  | .rsvdCmd3 => true
  | .rsvdCmd4 _ => true
  | .rsvdCmd8 _ => true
  | _ => false

/-- A write to a read-only or reserved location (30_encoding.md R87 class 2). -/
def Instr.isIgnoredWrite : Instr → Bool
  | .wrIgn1 => true
  | .wrIgn3 => true
  | .wrIgn4 _ => true
  | .wrIgn7 => true
  | .wrIgn8 _ => true
  | _ => false

/-- The operations rejected while BUSY = 1 (70_reset_and_hazards.md R287). -/
def Instr.isBusyRejected : Instr → Bool
  | .clear => true
  | .start => true
  | .pushb _ => true
  | _ => false

end Sys2Proof
end

