-- ==== Sys2Proof/Certificates/Slice0/Obligations.lean ====
section
/-! DEFINITION. The statements about the model, for the provers. Each docstring names the rules of spec/ it formalises. -/

open Sys2Proof Sys2Proof.Machine

/-! ### Encoding -/

/-- Decoding the canonical word of any well-formed operation gives the operation back, every operand at every value
(30_encoding.md R81, R83, R85). -/
def Obligations.DecodeOfEncodeIsTheOperation : Prop := ∀ i : Instr, i.wf = true → decode (encode i) = i

/-- Every 37-bit word lies in exactly one row of the opcode table, and decodes to that row's operation, well-formed (R88). -/
def Obligations.EveryWordLiesInExactlyOneTableRow : Prop :=
  ∀ h : Hop, (opcodeRows.countP fun r => r.holds h) = 1 ∧
    ((opcodeRows[(decode h).rowIndex]?).map fun r => r.holds h) = some true ∧ (decode h).wf = true

/-- D[31:4] of a CTRL write and D of a read change nothing, and a DATA_IN write takes its byte from D[7:0] alone
(R82, R84, R86). -/
def Obligations.IgnoredBitsChangeNothing : Prop :=
  (∀ d d' : Word, d &&& 0xf#32 = d' &&& 0xf#32 → decode (hopOf true 0#4 d) = decode (hopOf true 0#4 d')) ∧
  (∀ d : Word, decode (hopOf true 2#4 d) = .pushb (d.setWidth 8)) ∧
  (∀ (a : Addr) (d d' : Word), decode (hopOf false a d) = decode (hopOf false a d'))

/-- Words written out from the tables of R83, R85 and R90 decode to what they stand for. -/
def Obligations.WrittenOutWordsDecode : Prop :=
  decode 0x1000000000#37 = .nop ∧ decode 0x1000000001#37 = .clear ∧ decode 0x1000000002#37 = .start ∧
  decode 0x1000000007#37 = .rsvdCmd4 7#4 ∧ decode 0x100000000f#37 = .rsvdCmd8 15#4 ∧
  (∀ b : Byte, decode (0x1200000000#37 ||| b.setWidth 37) = .pushb b) ∧
  decode 0x16ffffffff#37 = .wrsel 0xffffffff#32 ∧ decode 0x1500000000#37 = .wrIgn4 5#4 ∧
  decode 0x0100000000#37 = .rdStatus ∧ decode 0x0700000000#37 = .rdResultLo ∧ decode 0x0e00000000#37 = .rdCntDecoded ∧
  decode 0x0f00000000#37 = .rdZero15

/-! ### A clock cycle -/

/-- A cycle with bus_sel = 1 and rst = 0 runs the operation its pins stand for, in the state with the cycle taken off the
list and bus_rdata at 0, and then the sequencer's edge, judged by BUSY at the start of the cycle (10_state.md R21,
60_exceptions.md R262; the list of cycles is the model's, log entries 1 and 2). -/
def Obligations.StepRunsTheTransactionOnTheBus : Prop :=
  ∀ (s : State) (c : Cycle) (rest : List Cycle), s.pending = c :: rest → c.rst = false → c.busSel = true →
    step s = endCycle s.busy c.finish (exec (decode c.hop) { s with pending := rest, rdata := 0#32 })

/-- Any well-formed operation put on the bus is the one the next step executes, and an edge of the sequencer follows only
if BUSY was 1 (R21, R80, R262). -/
def Obligations.PresentedOperationRunsInTheNextStep : Prop :=
  ∀ (i : Instr) (s : State), i.wf = true →
    step (s.present (encode i)) = endCycle s.busy false (exec i { s with rdata := 0#32 })

/-- A cycle with rst = 1 leaves every register at its reset value and ignores its transaction, a read returning 0
(70_reset_and_hazards.md R281, R282). That the host's cycles and its record of values go on is the model's choice (log
entries 1 and 9). -/
def Obligations.ResetCycleResetsAndIgnoresTheTransaction : Prop :=
  ∀ (s : State) (c : Cycle) (rest : List Cycle), s.pending = c :: rest → c.rst = true →
    ∃ t, step s = .next t ∧ t.statusWord = 0#32 ∧ t.phase = .idle ∧ t.doneLine = false ∧ t.bc = 0 ∧ t.rc = 0 ∧
      t.resn = 0 ∧ t.sel = 0#32 ∧ t.cnt = Counters.zero ∧ t.resultLoWord = 0#32 ∧ t.resultHiWord = 0#32 ∧
      t.resultIdxWord = 0#32 ∧ t.rdata = 0#32 ∧ t.pending = rest ∧
      t.returned = if c.busSel && !c.busWe then s.returned ++ [0#32] else s.returned

/-- While PHASE = IDLE, a cycle without a transaction loses nothing: only its place on the list goes, and bus_rdata is 0
(60_exceptions.md R271, 10_state.md R21). The list of cycles is the model's (log entry 1). -/
def Obligations.IdleBlockDoesNothing : Prop :=
  ∀ s : State, s.busy = false → s.currentCycle.rst = false → s.currentCycle.busSel = false →
    step s = .next { s with pending := s.pending.tail, rdata := 0#32 }

/-- Every step of every state answers a next state: nothing traps, halts or is refused (60_exceptions.md R250,
30_encoding.md R87, 45_scan_orchestrator.md R195). -/
def Obligations.EveryStepAnswersANextState : Prop := ∀ s : State, ∃ t, step s = .next t

/-- In the cycle whose edge completes the scan, the transaction comes first: the step is the completion of what the
operation left (60_exceptions.md R262, 20_memory.md R71). That the list of cycles names that cycle is the model's choice
(log entry 2). -/
def Obligations.CompletionComesAfterTheTransaction : Prop :=
  ∀ (s : State) (c : Cycle) (rest : List Cycle), s.pending = c :: rest → c.rst = false → c.busSel = true →
    s.busy = true → c.finish = true →
    ∃ u, exec (decode c.hop) { s with pending := rest, rdata := 0#32 } = .next u ∧ u.busy = true ∧
      step s = .next (u.complete Config.params)

/-- The operations accepted while BUSY = 1 (NOP, WRSEL, ignored writes, reserved commands) give the same state before and
after a completion (60_exceptions.md R262). -/
def Obligations.AcceptedBusyWritesCommuteWithCompletion : Prop :=
  ∀ (i : Instr) (s : State), s.busy = true →
    (i = .nop ∨ (∃ k, i = .wrsel k) ∨ i.isIgnoredWrite = true ∨ i.isReserved = true) →
    ∃ t, exec i s = .next t ∧ exec i (s.complete Config.params) = .next (t.complete Config.params)

/-- A scan in progress completes within LAT_MAX cycles of its START, whatever the host does short of reset, and the result
registers then hold the scan of the capture (70_reset_and_hazards.md R291, R285). The count of cycles and the place of
completion on the list are the model's (log entry 2). -/
def Obligations.ScanCompletesWithinLatMax : Prop :=
  ∀ s : State, s.busy = true → s.elapsed < Config.params.latMax s.bc → (∀ c ∈ s.pending, c.rst = false) →
    ∃ k t, 1 ≤ k ∧ k + s.elapsed ≤ Config.params.latMax s.bc ∧ Sys2Proof.core.run k s = .next t ∧
      t.busy = false ∧ t.done = true ∧ t.HoldsScanOf s.capture ∧ t.capture = s.capture

/-- An accepted START never completes in its own cycle: BUSY is 1 after it (70_reset_and_hazards.md R291). The count of cycles is the model's (log entry 2). -/
def Obligations.AcceptedStartLeavesTheBlockBusy : Prop :=
  ∀ s : State, s.busy = false →
    ∃ t, step (s.present 0x1000000002#37) = .next t ∧ t.busy = true ∧ t.done = false ∧ t.elapsed = 0

/-! ### CTRL commands -/

/-- NOP (command 0, whatever D[31:4]) and every write to a read-only or reserved location change nothing, also while BUSY = 1
(46_host_operations.md R210, R217). -/
def Obligations.NopAndIgnoredWritesChangeNothing : Prop :=
  ∀ s : State, exec .nop s = .next s ∧ exec .wrIgn1 s = .next s ∧ exec .wrIgn3 s = .next s ∧
    (∀ a, exec (.wrIgn4 a) s = .next s) ∧ exec .wrIgn7 s = .next s ∧ (∀ a, exec (.wrIgn8 a) s = .next s) ∧
    (∀ d : BitVec 28, decode (hopOf true 0#4 (d ++ 0#4)) = .nop) ∧
    ∀ (a : Addr) (d : Word), a ≠ 0#4 → a ≠ 2#4 → a ≠ 6#4 → (decode (hopOf true a d)).isIgnoredWrite = true

/-- A reserved command (3 to 15, whatever D[31:4]) sets ACC_ERR and nothing else, whether BUSY is 0 or 1 (46_host_operations.md R211). -/
def Obligations.ReservedCommandsSetAccErrOnly : Prop :=
  ∀ s : State, exec .rsvdCmd3 s = .next { s with accErr := true } ∧
    (∀ cmd, exec (.rsvdCmd4 cmd) s = .next { s with accErr := true }) ∧
    (∀ cmd, exec (.rsvdCmd8 cmd) s = .next { s with accErr := true }) ∧
    ({ State.reset with accErr := true } : State).statusWord = 0x10#32 ∧
    ∀ (d : BitVec 28) (c : BitVec 4), 3 ≤ c.toNat → (decode (hopOf true 0#4 (d ++ c))).isReserved = true

/-- CLEAR on an idle block sets the registers to 0 and leaves the bus side; on a busy one it sets ACC_ERR only
(46_host_operations.md R212). -/
def Obligations.ClearEmptiesAnIdleBlock : Prop :=
  ∀ s : State,
    (s.busy = true → exec .clear s = .next { s with accErr := true }) ∧
    (s.busy = false → ∃ t, exec .clear s = .next t ∧ t.bc = 0 ∧ t.rc = 0 ∧ t.resn = 0 ∧ t.sel = 0#32 ∧
      t.cnt = Counters.zero ∧ t.statusWord = 0#32 ∧ t.phase = .idle ∧ State.SameBus s t ∧ t.elapsed = s.elapsed ∧
      t.draws = s.draws) ∧
    ∀ d : BitVec 28, decode (hopOf true 0#4 (d ++ 1#4)) = .clear

/-- START on an idle block sets BUSY, clears DONE and RES_OVF and leaves everything else; on a busy one it sets ACC_ERR
only. A completion then gives the scan of the capture as it is now: of an empty one, no run and no result
(46_host_operations.md R213). -/
def Obligations.StartBeginsAScan : Prop :=
  ∀ s : State,
    (s.busy = true → exec .start s = .next { s with accErr := true }) ∧
    (s.busy = false → ∃ t, exec .start s = .next t ∧ t.busy = true ∧ t.phase = .scanning ∧ t.done = false ∧
      t.resOvf = false ∧ t.capOvf = s.capOvf ∧ t.accErr = s.accErr ∧ State.SameCapture s t ∧ State.SameResults s t ∧
      t.sel = s.sel ∧ State.SameBus s t ∧ t.draws = s.draws ∧
      (t.complete Config.params).HoldsScanOf s.capture ∧
      (s.bc = 0 → (t.complete Config.params).rc = 0 ∧ (t.complete Config.params).resn = 0)) ∧
    ∀ d : BitVec 28, decode (hopOf true 0#4 (d ++ 2#4)) = .start

/-! ### Data writes -/

/-- PUSHB appends its byte as CAPBUF[BC] and leaves every other byte and register; when the buffer is full it sets CAP_OVF
only; while BUSY it sets ACC_ERR only, also when the buffer is full (46_host_operations.md R215, 60_exceptions.md R261).
The byte is D[7:0], whatever D[31:8]. -/
def Obligations.PushbAppendsOrDropsItsByte : Prop :=
  ∀ (s : State) (b : Byte),
    (s.busy = true → exec (.pushb b) s = .next { s with accErr := true }) ∧
    (s.busy = false → s.bc = Config.params.capBytes → exec (.pushb b) s = .next { s with capOvf := true }) ∧
    (s.busy = false → s.bc ≠ Config.params.capBytes → ∃ t, exec (.pushb b) s = .next t ∧ t.bc = s.bc + 1 ∧
      t.capbuf.read s.bc = some b ∧ (∀ a, a ≠ s.bc → t.capbuf.read a = s.capbuf.read a) ∧
      t.statusWord = s.statusWord ∧ State.SameResults s t ∧ t.sel = s.sel ∧ State.SameBus s t ∧
      t.elapsed = s.elapsed ∧ t.draws = s.draws) ∧
    ∀ d : BitVec 24, decode (hopOf true 2#4 (d ++ b)) = .pushb b

/-- An accepted PUSHB makes the capture longer by its byte at the end: byte k of the capture is the k-th byte written
(20_memory.md R61, R62). -/
def Obligations.PushbExtendsTheCapture : Prop :=
  ∀ (s : State) (b : Byte), s.busy = false → s.bc ≠ Config.params.capBytes →
    ∃ t, exec (.pushb b) s = .next t ∧ t.capture = s.capture ++ [b]

/-- WRSEL stores every word, also while BUSY, and changes nothing else; with SEL not below RESN the windows show 0
(46_host_operations.md R216). -/
def Obligations.WrselStoresEveryWord : Prop :=
  ∀ (s : State) (k : Word), exec (.wrsel k) s = .next { s with sel := k } ∧ decode (hopOf true 6#4 k) = .wrsel k ∧
    (s.resn ≤ k.toNat → ({ s with sel := k } : State).resultLoWord = 0#32 ∧
      ({ s with sel := k } : State).resultHiWord = 0#32 ∧ ({ s with sel := k } : State).resultIdxWord = 0#32)

/-! ### Reads

The word a read returns is on `rdata`, the port bus_rdata, and at the end of `returned`, the model's record of the values
read (70_reset_and_hazards.md R293; log entry 9). -/

/-- RD STATUS returns the five flags in bits 4 to 0 and 0 in bits 31:5, at all times, and changes nothing else
(46_host_operations.md R218). -/
def Obligations.StatusReadShowsTheFlags : Prop :=
  ∀ s : State, ∃ w : Word, exec .rdStatus s = .next { s with rdata := w, returned := s.returned ++ [w] } ∧
    w.toNat = 16 * s.accErr.toNat + 8 * s.resOvf.toNat + 4 * s.capOvf.toNat + 2 * s.done.toNat + s.busy.toNat ∧
    ∀ d : Word, decode (hopOf false 1#4 d) = .rdStatus

/-- RD BYTE_COUNT returns BC and RD RESULT_SEL returns SEL, at all times, and both change nothing else
(46_host_operations.md R219, R222). -/
def Obligations.ByteCountAndSelectAreAlwaysReadable : Prop :=
  ∀ s : State,
    exec .rdByteCount s = .next { s with rdata := BitVec.ofNat 32 s.bc, returned := s.returned ++ [BitVec.ofNat 32 s.bc] } ∧
    exec .rdResultSel s = .next { s with rdata := s.sel, returned := s.returned ++ [s.sel] } ∧
    ∀ d : Word, decode (hopOf false 3#4 d) = .rdByteCount ∧ decode (hopOf false 6#4 d) = .rdResultSel

/-- A read of a write-only or reserved location returns 0 and changes nothing else, also while BUSY = 1
(46_host_operations.md R231). -/
def Obligations.WriteOnlyAndReservedReadZero : Prop :=
  ∀ s : State,
    exec .rdZero0 s = .next { s with rdata := 0#32, returned := s.returned ++ [0#32] } ∧
    exec .rdZero2 s = .next { s with rdata := 0#32, returned := s.returned ++ [0#32] } ∧
    exec .rdZero15 s = .next { s with rdata := 0#32, returned := s.returned ++ [0#32] } ∧
    ∀ d : Word, decode (hopOf false 0#4 d) = .rdZero0 ∧ decode (hopOf false 2#4 d) = .rdZero2 ∧
      decode (hopOf false 15#4 d) = .rdZero15

/-- With BUSY = 0 the reads of RUN_COUNT, RESULT_COUNT and the counters return their counts and change nothing else
(46_host_operations.md R220, R221, R226 to R230). -/
def Obligations.IdleCountReadsReturnTheCounts : Prop :=
  ∀ s : State, s.busy = false →
    ∀ p ∈ [(Instr.rdRunCount, s.rc), (.rdResultCount, s.resn), (.rdCntNomatch, s.cnt.noMatch),
        (.rdCntCollision, s.cnt.collision), (.rdCntTrunc, s.cnt.truncated), (.rdCntChecksum, s.cnt.checksum),
        (.rdCntDecoded, s.cnt.decoded)],
      exec p.1 s = .next { s with rdata := BitVec.ofNat 32 p.2, returned := s.returned ++ [BitVec.ofNat 32 p.2] }

/-- With BUSY = 0 the windows show the words of entry SEL of RESMEM if SEL < RESN and 0 otherwise, and the read changes
nothing else (46_host_operations.md R223, R224, R225). -/
def Obligations.IdleWindowReadsShowTheSelectedEntry : Prop :=
  ∀ s : State, s.busy = false →
    (∀ r, s.sel.toNat < s.resn → s.resmem[s.sel.toNat]? = some r →
      ∃ lo hi ix : Word,
        exec .rdResultLo s = .next { s with rdata := lo, returned := s.returned ++ [lo] } ∧
        exec .rdResultHi s = .next { s with rdata := hi, returned := s.returned ++ [hi] } ∧
        exec .rdResultIdx s = .next { s with rdata := ix, returned := s.returned ++ [ix] } ∧
        lo.toNat = r.payload.toNat % 2 ^ 32 ∧ hi.toNat = r.payload.toNat / 2 ^ 32 ∧ ix.toNat = r.index % 2 ^ 32) ∧
    (s.resn ≤ s.sel.toNat → ∀ i ∈ [Instr.rdResultLo, .rdResultHi, .rdResultIdx],
      exec i s = .next { s with rdata := 0#32, returned := s.returned ++ [0#32] })

/-- While BUSY = 1 each read of a result register returns some word and changes nothing else of the block
(70_reset_and_hazards.md R286; the word is the model's free value, log entry 5). -/
def Obligations.BusyResultReadsReturnSomeWord : Prop :=
  ∀ s : State, s.busy = true → ∀ i ∈ resultReads,
    ∃ w, exec i s = .next { s with rdata := w, returned := s.returned ++ [w], draws := s.draws + 1 }

/-- No read changes the block, and a register read twice in a row returns the same word unless it is one of the result
registers while BUSY = 1 (20_memory.md R66). -/
def Obligations.ReadsHaveNoSideEffect : Prop :=
  ∀ i ∈ readInstrs, ∀ s : State,
    ∃ w n, exec i s = .next { s with rdata := w, returned := s.returned ++ [w], draws := n } ∧
      ((s.busy = false ∨ i ∉ resultReads) →
        ∃ u, exec i { s with rdata := w, returned := s.returned ++ [w], draws := n } = .next u ∧ u.rdata = w)

/-- Bits 31:8 of RESULT_HI are 0 in every state, and with BUSY = 0 a read returns them so (10_state.md R31, 20_memory.md
R64). While BUSY = 1 the whole word a read returns is unspecified (46_host_operations.md R224; log entry 8). -/
def Obligations.ResultHighBitsReadZero : Prop :=
  ∀ s : State, s.resultHiWord.toNat < 256 ∧
    (s.busy = false → ∃ w : Word, exec .rdResultHi s = .next { s with rdata := w, returned := s.returned ++ [w] } ∧
      w.toNat < 256)

/-! ### Rules over all operations -/

/-- A write to a location other than CTRL, DATA_IN and RESULT_SEL changes nothing and sets no flag (20_memory.md R67). -/
def Obligations.WritesElsewhereChangeNothing : Prop :=
  ∀ (h : Hop) (s : State), hopW h = true → hopA h ≠ 0#4 → hopA h ≠ 2#4 → hopA h ≠ 6#4 → exec (decode h) s = .next s

/-- Which operation can change which register: BC only PUSHB and CLEAR, SEL only WRSEL and CLEAR, RC, RESN, RESMEM and the
counters only CLEAR, DONE only START and CLEAR, the data port only a read; no operation changes the cycles to come
(10_state.md R24, R26 to R29). -/
def Obligations.EachRegisterHasItsWriters : Prop :=
  ∀ (i : Instr) (s t : State), exec i s = .next t →
    (t.bc ≠ s.bc → i = .clear ∨ ∃ b, i = .pushb b) ∧
    ((∃ a, t.capbuf.read a ≠ s.capbuf.read a) → i = .clear ∨ ∃ b, i = .pushb b) ∧
    (t.sel ≠ s.sel → i = .clear ∨ ∃ k, i = .wrsel k) ∧
    (¬State.SameResults s t → i = .clear) ∧
    (t.busy ≠ s.busy → i = .start ∧ t.busy = true) ∧
    (t.done ≠ s.done ∨ t.resOvf ≠ s.resOvf → i = .start ∨ i = .clear) ∧
    (t.rdata ≠ s.rdata ∨ t.returned ≠ s.returned → i ∈ readInstrs) ∧
    t.pending = s.pending

/-- ACC_ERR is set by exactly the reserved commands and, while BUSY = 1, CLEAR, START and PUSHB, each of which then has no
other effect; it is cleared only by an accepted CLEAR and reset (60_exceptions.md R257). -/
def Obligations.AccErrIsSetByExactlyTheRejectedWrites : Prop :=
  (∀ (i : Instr) (s t : State), exec i s = .next t →
    (s.accErr = false → (t.accErr = true ↔ i.isReserved = true ∨ (s.busy = true ∧ i.isBusyRejected = true))) ∧
    (i.isReserved = true ∨ (s.busy = true ∧ i.isBusyRejected = true) → t = { s with accErr := true }) ∧
    (s.accErr = true → (t.accErr = false ↔ i = .clear ∧ s.busy = false))) ∧
  (∀ (s : State) (finish : Bool), (s.scanEdge Config.params finish).accErr = s.accErr) ∧
  ∀ (s : State) (c : Cycle), (s.resetEdge c).accErr = false

/-- CAP_OVF is set by exactly a PUSHB with BUSY = 0 and BC = CAP_BYTES, which leaves the capture as it was, and is cleared
only by an accepted CLEAR and reset (60_exceptions.md R258). -/
def Obligations.CapOvfIsSetByExactlyTheDroppedBytes : Prop :=
  (∀ (i : Instr) (s t : State), exec i s = .next t →
    (s.capOvf = false →
      (t.capOvf = true ↔ (∃ b, i = .pushb b) ∧ s.busy = false ∧ s.bc = Config.params.capBytes)) ∧
    ((∃ b, i = .pushb b) → s.bc = Config.params.capBytes → t.capture = s.capture) ∧
    (s.capOvf = true → (t.capOvf = false ↔ i = .clear ∧ s.busy = false))) ∧
  (∀ (s : State) (finish : Bool), (s.scanEdge Config.params finish).capOvf = s.capOvf) ∧
  ∀ (s : State) (c : Cycle), (s.resetEdge c).capOvf = false

/-- A completion sets RES_OVF exactly when it decoded more than CAP_RESULTS payloads, keeps the first CAP_RESULTS of them
and counts all in CNT_DECODED; START, an accepted CLEAR and reset clear the flag (60_exceptions.md R259). -/
def Obligations.ResOvfTellsOfDroppedResults : Prop :=
  ∀ s : State,
    ((s.complete Config.params).resOvf = true ↔ Config.params.capResults < (s.complete Config.params).cnt.decoded) ∧
    (s.complete Config.params).cnt.decoded = (scanCapture s.capture).length ∧
    (s.complete Config.params).resmem = (scanCapture s.capture).take Config.params.capResults ∧
    (s.busy = false → (∃ t, exec .start s = .next t ∧ t.resOvf = false) ∧ ∃ t, exec .clear s = .next t ∧ t.resOvf = false) ∧
    ∀ c, (s.resetEdge c).resOvf = false

/-- While BUSY = 1 no operation changes the capture the scan reads, or ends the scan (20_memory.md R73). -/
def Obligations.BusyScanKeepsItsCapture : Prop :=
  ∀ (i : Instr) (s : State), s.busy = true →
    ∃ t, exec i s = .next t ∧ t.busy = true ∧ State.SameCapture s t ∧ t.capture = s.capture

/-- With DONE = 1, an operation other than START and CLEAR leaves the scan's results and flags as they are, PUSHB included
(20_memory.md R72, 70_reset_and_hazards.md R289). -/
def Obligations.ResultsHoldUntilStartOrClear : Prop :=
  ∀ (i : Instr) (s t : State), s.done = true → i ≠ .start → i ≠ .clear → exec i s = .next t →
    State.SameResults s t ∧ t.done = true ∧ t.resOvf = s.resOvf

/-- The done line is bit 1 of STATUS; it rises only at a completion edge, that is, out of a scan in progress, and falls only
at reset or at a START or CLEAR accepted in an idle block (60_exceptions.md R265). -/
def Obligations.DoneLineRisesAndFallsAsStated : Prop :=
  ∀ s t : State, step s = .next t →
    t.doneLine = t.statusWord.getLsbD 1 ∧
    (s.doneLine = false → t.doneLine = true → s.busy = true ∧ t.busy = false ∧ s.currentCycle.rst = false) ∧
    (s.doneLine = true → t.doneLine = false →
      s.currentCycle.rst = true ∨ (s.busy = false ∧ s.currentCycle.busSel = true ∧
        (decode s.currentCycle.hop = .start ∨ decode s.currentCycle.hop = .clear)))

/-! ### Invariants -/

/-- The reset state meets the invariant (70_reset_and_hazards.md R282). That reset lists no byte and no record in the
memories is the model's choice (log entries 3 and 4). -/
def Obligations.ResetStateMeetsTheInvariant : Prop := State.reset.Inv

/-- Every step keeps the invariant of 10_state.md R46 and R47 and 70_reset_and_hazards.md R291. The form of CAPBUF and the
count of the scan's cycles are the model's (log entries 2 and 3). -/
def Obligations.EveryStepKeepsTheInvariant : Prop := ∀ s t : State, s.Inv → step s = .next t → t.Inv

/-- The invariant gives what 10_state.md R47 says of every reachable state. -/
def Obligations.InvariantGivesTheStatedFacts : Prop :=
  ∀ s : State, s.Inv →
    s.bc ≤ Config.params.capBytes ∧ s.resn ≤ Config.params.capResults ∧ ¬(s.busy = true ∧ s.done = true) ∧
    (s.done = true →
      (∃ bc0, bc0 ≤ s.bc ∧ s.rc = (rle (expand (s.capture.take bc0))).length) ∧
      s.cnt.noMatch + s.cnt.collision + s.cnt.truncated + s.cnt.checksum + s.cnt.decoded = s.rc ∧
      s.resn = min s.cnt.decoded Config.params.capResults ∧
      (s.resOvf = true ↔ Config.params.capResults < s.cnt.decoded))

/-- Every step keeps CAPBUF's memory in its canonical form, which is the model's (log entry 3; 20_memory.md R61). -/
def Obligations.EveryStepKeepsCapbufCanonical : Prop :=
  ∀ s t : State, s.capbuf.wf = true → step s = .next t → t.capbuf.wf = true

/-- Under the invariant no count and no run index wraps in its 32-bit register (00_scope.md R9). -/
def Obligations.RegisterWordsDoNotWrap : Prop :=
  ∀ s : State, s.Inv →
    s.byteCountWord.toNat = s.bc ∧ s.runCountWord.toNat = s.rc ∧ s.resultCountWord.toNat = s.resn ∧
    (∀ n ∈ [s.cnt.noMatch, s.cnt.collision, s.cnt.truncated, s.cnt.checksum, s.cnt.decoded], (countWord n).toNat = n) ∧
    ∀ r ∈ s.resmem, (countWord r.index).toNat = r.index

/-! ### The datapath -/

/-- Sample t of a capture is bit 7 − (t mod 8) of byte t div 8, and there are 8 samples a byte (40_bit_expander.md R101). -/
def Obligations.SamplesAreTheBytesMsbFirst : Prop :=
  ∀ bytes : List Byte, (expand bytes).length = 8 * bytes.length ∧
    ∀ t, t < 8 * bytes.length → (expand bytes)[t]? = (bytes[t / 8]?).map fun b => b.getLsbD (7 - t % 8)

/-- Re-packing the samples of a capture gives the capture back (40_bit_expander.md R103). -/
def Obligations.RepackingTheSamplesGivesTheCapture : Prop :=
  ∀ bytes : List Byte, repack (expand bytes) = bytes ∧ (expand bytes).length = 8 * bytes.length

/-- The runs are the transitions: run k has the level after the k-th transition and the distance from the transition before
it, or from 0 for the first (41_run_length.md R111, R113, R114). -/
def Obligations.RunsAreTheTransitions : Prop :=
  ∀ s : List Bool, (rle s).length = (transitions s).length ∧
    ∀ (k t : Nat), (transitions s)[k]? = some t →
      ∃ lvl, s[t + 1]? = some lvl ∧ previousTransition (transitions s) k ≤ t ∧
        (rle s)[k]? = some ⟨lvl, t - previousTransition (transitions s) k⟩

/-- Levels alternate, and the first run's level is not the first sample (41_run_length.md R115). -/
def Obligations.RunLevelsAlternate : Prop :=
  ∀ s : List Bool, levelsAlternate (rle s) = true ∧
    ∀ r b, (rle s)[0]? = some r → s[0]? = some b → r.lvl = !b

/-- Bounds: durations are at most N − 2 and, after the first, at least 1; there are at most N − 1 runs, which fit in
CAP_RUNS entries; the durations sum to the last transition index (41_run_length.md R116, R117). -/
def Obligations.RunsAndDurationsAreBounded : Prop :=
  (∀ (s : List Bool) (k : Nat) (r : Run), (rle s)[k]? = some r → r.dur + 2 ≤ s.length ∧ (1 ≤ k → 1 ≤ r.dur)) ∧
  (∀ s : List Bool, (rle s).length ≤ s.length - 1 ∧
    ∀ t, (transitions s).getLast? = some t → ((rle s).map Run.dur).sum = t) ∧
  ∀ (P : Params) (bytes : List Byte), bytes.length ≤ P.capBytes → (captureRuns bytes).length ≤ 8 * P.capBytes - 1

/-- MATCH(st) succeeds, with st + 17, exactly when the 17 runs from st on exist and pass the pattern table
(42_preamble_matcher.md R136). -/
def Obligations.MatchIsThePatternTable : Prop :=
  ∀ (runs : List Run) (st p : Nat), matchPreamble runs st = some p ↔
    p = st + 17 ∧ st + 16 < runs.length ∧
    (∃ r, runs[st]? = some r ∧ r.lvl = true ∧ 30 ≤ r.dur) ∧
    ∀ k, k < 8 →
      (∃ r, runs[st + 1 + 2 * k]? = some r ∧ r.lvl = false ∧ r.dur ≤ 30) ∧
      ∃ r, runs[st + 2 + 2 * k]? = some r ∧ r.lvl = true ∧ r.dur ≤ 30

/-- With alternating levels, a match is decided by the sync level and the durations; all matches have the same parity; and
two matches at most 16 apart share a run of duration exactly 30 (42_preamble_matcher.md R138). -/
def Obligations.OverlappingMatchesShareADurationOfThirty : Prop :=
  ∀ runs : List Run, levelsAlternate runs = true →
    (∀ st, (matchPreamble runs st).isSome = true ↔
      st + 16 < runs.length ∧ (∃ r, runs[st]? = some r ∧ r.lvl = true ∧ 30 ≤ r.dur) ∧
      ∀ e r, 1 ≤ e → e ≤ 16 → runs[st + e]? = some r → r.dur ≤ 30) ∧
    ∀ st st', (matchPreamble runs st).isSome = true → (matchPreamble runs st').isSome = true →
      st % 2 = st' % 2 ∧ (st < st' → st' ≤ st + 16 → ∃ r, runs[st']? = some r ∧ r.dur = 30)

/-- RECON succeeds with a body exactly when the classes of the runs from p on (long when the duration exceeds 30, else short)
begin with the body's classes: one long run where the bit changes, two short runs where it holds (43_bit_reconstructor.md
R153, R154, R158, R159). -/
def Obligations.ReconSucceedsOnTheBodyClasses : Prop :=
  ∀ (runs : List Run) (p : Nat) (lb : List Bool), recon runs p = .ok lb ↔
    ∃ body, body.length = 55 ∧ lb = List.replicate 9 true ++ body ∧
      bodyClasses true body <+: (runs.drop p).map fun r => decide (30 < r.dur)

/-- RECON fails with COLLISION exactly when, after the classes of fewer than 55 bits, a short run (duration at most 30)
is followed by a long one (43_bit_reconstructor.md R154, R155, 60_exceptions.md R253). -/
def Obligations.CollisionIsAHoldBeforeALongRun : Prop :=
  ∀ (runs : List Run) (p : Nat), recon runs p = .error .collision ↔
    ∃ bits : List Bool, bits.length < 55 ∧
      (bodyClasses true bits ++ [false, true]) <+: (runs.drop p).map fun r => decide (30 < r.dur)

/-- RECON fails with TRUNCATED exactly when the runs end after the classes of fewer than 55 bits, or one short run later
(43_bit_reconstructor.md R152, R154, R155, 60_exceptions.md R254). -/
def Obligations.TruncatedIsRunningOutOfRuns : Prop :=
  ∀ (runs : List Run) (p : Nat), recon runs p = .error .truncated ↔
    ∃ bits : List Bool, bits.length < 55 ∧
      (((runs.drop p).map fun r => decide (30 < r.dur)) = bodyClasses true bits ∨
        ((runs.drop p).map fun r => decide (30 < r.dur)) = bodyClasses true bits ++ [false])

/-- RECON never reads a level: runs of equal durations reconstruct alike (43_bit_reconstructor.md R157). -/
def Obligations.ReconReadsDurationsOnly : Prop :=
  ∀ (runs runs' : List Run) (p : Nat), runs.map Run.dur = runs'.map Run.dur → recon runs p = recon runs' p

/-- DECODE yields V exactly when all ten groups have even parity, the framing bit is 0, and V's nibbles are the groups'
data bits, most significant first (44_payload_decoder.md R172 to R175). -/
def Obligations.PayloadIsTheTenNibbles : Prop :=
  ∀ (lb : List Bool) (v : Payload), lb.length = 64 → (decodePayload lb = some v ↔
    lb[63]? = some false ∧
    ∀ g, g < 10 → ∃ b0 b1 b2 b3 b4,
      (lb.drop (9 + 5 * g)).take 5 = [b0, b1, b2, b3, b4] ∧ (b0 ^^ b1 ^^ b2 ^^ b3 ^^ b4) = false ∧
      v.getLsbD (39 - 4 * g) = b0 ∧ v.getLsbD (38 - 4 * g) = b1 ∧ v.getLsbD (37 - 4 * g) = b2 ∧
      v.getLsbD (36 - 4 * g) = b3)

/-- Every 40-bit V is what its own frame decodes to, whatever stands at body[50..53] (44_payload_decoder.md R179, items 1
and 4). -/
def Obligations.EveryPayloadSurvivesItsFrame : Prop :=
  ∀ (v : Payload) (c0 c1 c2 c3 : Bool), decodePayload (payloadBits v c0 c1 c2 c3) = some v

/-- Flipping any one of body[0..49], or body[54], of a frame gives CHECKSUM (44_payload_decoder.md R179, items 2 and 3). -/
def Obligations.SingleBitFlipsAreDetected : Prop :=
  ∀ (v : Payload) (c0 c1 c2 c3 : Bool) (k : Nat), k < 50 ∨ k = 54 →
    decodePayload (flipAt (9 + k) (payloadBits v c0 c1 c2 c3)) = none

/-- DECODE reads body[0..49] and body[54] alone: bit sequences that agree there decode alike, whatever the header and
body[50..53] (44_payload_decoder.md R171, R176). -/
def Obligations.DecodeReadsGroupsAndFramingOnly : Prop :=
  ∀ lb lb' : List Bool, lb.length = 64 → lb'.length = 64 →
    (∀ k, k < 50 ∨ k = 54 → lb[9 + k]? = lb'[9 + k]?) → decodePayload lb = decodePayload lb'

/-- The scan's results are the decoded attempts, each index once and ascending (45_scan_orchestrator.md R190, R192). What
an attempt decodes is stated in `CountersSumToTheRunCount`. -/
def Obligations.ResultsAreTheDecodedAttemptsInOrder : Prop :=
  ∀ runs : List Run, (scanResults runs).Pairwise (fun a b => a.index < b.index) ∧
    ∀ (v : Payload) (i : Nat), (⟨v, i⟩ : Result) ∈ scanResults runs ↔ i < runs.length ∧ attempt runs i = .decoded v

/-- Each counter is the number of indices below RC whose attempt has its outcome, so they sum to the run count, and
CNT_DECODED is the number of results (45_scan_orchestrator.md R190, R191, R194, 10_state.md R33 to R37). An attempt's
outcome is that of its stages: MATCH at i, then RECON at i + 17, then DECODE (R191, 60_exceptions.md R252 to R255). -/
def Obligations.CountersSumToTheRunCount : Prop :=
  ∀ runs : List Run,
    (∀ i, (attempt runs i = .noMatch ↔ matchPreamble runs i = none) ∧
      (attempt runs i = .collision ↔
        (matchPreamble runs i).isSome = true ∧ recon runs (i + 17) = .error .collision) ∧
      (attempt runs i = .truncated ↔
        (matchPreamble runs i).isSome = true ∧ recon runs (i + 17) = .error .truncated) ∧
      (attempt runs i = .checksum ↔
        (matchPreamble runs i).isSome = true ∧ ∃ lb, recon runs (i + 17) = .ok lb ∧ decodePayload lb = none) ∧
      ∀ v, (attempt runs i = .decoded v ↔
        (matchPreamble runs i).isSome = true ∧ ∃ lb, recon runs (i + 17) = .ok lb ∧ decodePayload lb = some v)) ∧
    (scanCounters runs).noMatch = (List.range runs.length).countP (fun i => attempt runs i = .noMatch) ∧
    (scanCounters runs).collision = (List.range runs.length).countP (fun i => attempt runs i = .collision) ∧
    (scanCounters runs).truncated = (List.range runs.length).countP (fun i => attempt runs i = .truncated) ∧
    (scanCounters runs).checksum = (List.range runs.length).countP (fun i => attempt runs i = .checksum) ∧
    (scanCounters runs).decoded = (List.range runs.length).countP (fun i => attempt runs i matches .decoded _) ∧
    (scanCounters runs).total = runs.length ∧ (scanCounters runs).decoded = (scanResults runs).length

/-- Storing min(dur, 31) instead of every duration changes no attempt, no result and no counter (41_run_length.md R118). -/
def Obligations.SaturatedDurationsScanAlike : Prop :=
  ∀ runs : List Run, (∀ i, attempt (runs.map Run.saturate) i = attempt runs i) ∧
    scanResults (runs.map Run.saturate) = scanResults runs ∧ scanCounters (runs.map Run.saturate) = scanCounters runs

/-- A completion writes the scan of the capture and depends on nothing else of the state: two states with the same capture
complete with the same results, and BC, CAPBUF, SEL, CAP_OVF and ACC_ERR stay (45_scan_orchestrator.md R194, R196). -/
def Obligations.CompletionDependsOnTheCaptureAlone : Prop :=
  ∀ s s' : State, s.capture = s'.capture →
    State.SameResults (s.complete Config.params) (s'.complete Config.params) ∧
    (s.complete Config.params).HoldsScanOf s'.capture ∧ (s.complete Config.params).rc = (captureRuns s'.capture).length ∧
    (s.complete Config.params).resn = min (scanCapture s'.capture).length Config.params.capResults ∧
    State.SameCapture s (s.complete Config.params) ∧ (s.complete Config.params).sel = s.sel ∧
    (s.complete Config.params).capOvf = s.capOvf ∧ (s.complete Config.params).accErr = s.accErr ∧
    (s.complete Config.params).busy = false ∧ (s.complete Config.params).done = true
end

