-- ==== Sys2Proof/Laws/State.lean ====
section
/-! SUPPORT. One lemma per field per update of the state, so that no later proof unfolds a record update. -/

namespace Sys2Proof.Machine

variable (s : State)

/-! ### `State.rejectWrite` -/

@[simp] theorem State.rejectWrite_bc : s.rejectWrite.bc = s.bc := rfl
@[simp] theorem State.rejectWrite_capbuf : s.rejectWrite.capbuf = s.capbuf := rfl
@[simp] theorem State.rejectWrite_busy : s.rejectWrite.busy = s.busy := rfl
@[simp] theorem State.rejectWrite_done : s.rejectWrite.done = s.done := rfl
@[simp] theorem State.rejectWrite_capOvf : s.rejectWrite.capOvf = s.capOvf := rfl
@[simp] theorem State.rejectWrite_resOvf : s.rejectWrite.resOvf = s.resOvf := rfl
@[simp] theorem State.rejectWrite_accErr : s.rejectWrite.accErr = true := rfl
@[simp] theorem State.rejectWrite_rc : s.rejectWrite.rc = s.rc := rfl
@[simp] theorem State.rejectWrite_runs : s.rejectWrite.runs = s.runs := rfl
@[simp] theorem State.rejectWrite_resn : s.rejectWrite.resn = s.resn := rfl
@[simp] theorem State.rejectWrite_resmem : s.rejectWrite.resmem = s.resmem := rfl
@[simp] theorem State.rejectWrite_cnt : s.rejectWrite.cnt = s.cnt := rfl
@[simp] theorem State.rejectWrite_sel : s.rejectWrite.sel = s.sel := rfl
@[simp] theorem State.rejectWrite_rdata : s.rejectWrite.rdata = s.rdata := rfl
@[simp] theorem State.rejectWrite_pending : s.rejectWrite.pending = s.pending := rfl
@[simp] theorem State.rejectWrite_returned : s.rejectWrite.returned = s.returned := rfl
@[simp] theorem State.rejectWrite_elapsed : s.rejectWrite.elapsed = s.elapsed := rfl
@[simp] theorem State.rejectWrite_draws : s.rejectWrite.draws = s.draws := rfl

/-! ### `State.dropByte` -/

@[simp] theorem State.dropByte_bc : s.dropByte.bc = s.bc := rfl
@[simp] theorem State.dropByte_capbuf : s.dropByte.capbuf = s.capbuf := rfl
@[simp] theorem State.dropByte_busy : s.dropByte.busy = s.busy := rfl
@[simp] theorem State.dropByte_done : s.dropByte.done = s.done := rfl
@[simp] theorem State.dropByte_capOvf : s.dropByte.capOvf = true := rfl
@[simp] theorem State.dropByte_resOvf : s.dropByte.resOvf = s.resOvf := rfl
@[simp] theorem State.dropByte_accErr : s.dropByte.accErr = s.accErr := rfl
@[simp] theorem State.dropByte_rc : s.dropByte.rc = s.rc := rfl
@[simp] theorem State.dropByte_runs : s.dropByte.runs = s.runs := rfl
@[simp] theorem State.dropByte_resn : s.dropByte.resn = s.resn := rfl
@[simp] theorem State.dropByte_resmem : s.dropByte.resmem = s.resmem := rfl
@[simp] theorem State.dropByte_cnt : s.dropByte.cnt = s.cnt := rfl
@[simp] theorem State.dropByte_sel : s.dropByte.sel = s.sel := rfl
@[simp] theorem State.dropByte_rdata : s.dropByte.rdata = s.rdata := rfl
@[simp] theorem State.dropByte_pending : s.dropByte.pending = s.pending := rfl
@[simp] theorem State.dropByte_returned : s.dropByte.returned = s.returned := rfl
@[simp] theorem State.dropByte_elapsed : s.dropByte.elapsed = s.elapsed := rfl
@[simp] theorem State.dropByte_draws : s.dropByte.draws = s.draws := rfl

/-! ### `State.clearAll` -/

@[simp] theorem State.clearAll_bc : s.clearAll.bc = 0 := rfl
@[simp] theorem State.clearAll_capbuf : s.clearAll.capbuf = [] := rfl
@[simp] theorem State.clearAll_busy : s.clearAll.busy = s.busy := rfl
@[simp] theorem State.clearAll_done : s.clearAll.done = false := rfl
@[simp] theorem State.clearAll_capOvf : s.clearAll.capOvf = false := rfl
@[simp] theorem State.clearAll_resOvf : s.clearAll.resOvf = false := rfl
@[simp] theorem State.clearAll_accErr : s.clearAll.accErr = false := rfl
@[simp] theorem State.clearAll_rc : s.clearAll.rc = 0 := rfl
@[simp] theorem State.clearAll_runs : s.clearAll.runs = [] := rfl
@[simp] theorem State.clearAll_resn : s.clearAll.resn = 0 := rfl
@[simp] theorem State.clearAll_resmem : s.clearAll.resmem = [] := rfl
@[simp] theorem State.clearAll_cnt : s.clearAll.cnt = Counters.zero := rfl
@[simp] theorem State.clearAll_sel : s.clearAll.sel = 0#32 := rfl
@[simp] theorem State.clearAll_rdata : s.clearAll.rdata = s.rdata := rfl
@[simp] theorem State.clearAll_pending : s.clearAll.pending = s.pending := rfl
@[simp] theorem State.clearAll_returned : s.clearAll.returned = s.returned := rfl
@[simp] theorem State.clearAll_elapsed : s.clearAll.elapsed = s.elapsed := rfl
@[simp] theorem State.clearAll_draws : s.clearAll.draws = s.draws := rfl

/-! ### `State.beginScan` -/

@[simp] theorem State.beginScan_bc : s.beginScan.bc = s.bc := rfl
@[simp] theorem State.beginScan_capbuf : s.beginScan.capbuf = s.capbuf := rfl
@[simp] theorem State.beginScan_busy : s.beginScan.busy = true := rfl
@[simp] theorem State.beginScan_done : s.beginScan.done = false := rfl
@[simp] theorem State.beginScan_capOvf : s.beginScan.capOvf = s.capOvf := rfl
@[simp] theorem State.beginScan_resOvf : s.beginScan.resOvf = false := rfl
@[simp] theorem State.beginScan_accErr : s.beginScan.accErr = s.accErr := rfl
@[simp] theorem State.beginScan_rc : s.beginScan.rc = s.rc := rfl
@[simp] theorem State.beginScan_runs : s.beginScan.runs = s.runs := rfl
@[simp] theorem State.beginScan_resn : s.beginScan.resn = s.resn := rfl
@[simp] theorem State.beginScan_resmem : s.beginScan.resmem = s.resmem := rfl
@[simp] theorem State.beginScan_cnt : s.beginScan.cnt = s.cnt := rfl
@[simp] theorem State.beginScan_sel : s.beginScan.sel = s.sel := rfl
@[simp] theorem State.beginScan_rdata : s.beginScan.rdata = s.rdata := rfl
@[simp] theorem State.beginScan_pending : s.beginScan.pending = s.pending := rfl
@[simp] theorem State.beginScan_returned : s.beginScan.returned = s.returned := rfl
@[simp] theorem State.beginScan_elapsed : s.beginScan.elapsed = 0 := rfl
@[simp] theorem State.beginScan_draws : s.beginScan.draws = s.draws := rfl

/-! ### `State.select` -/

@[simp] theorem State.select_bc (w : Word) : (s.select w).bc = s.bc := rfl
@[simp] theorem State.select_capbuf (w : Word) : (s.select w).capbuf = s.capbuf := rfl
@[simp] theorem State.select_busy (w : Word) : (s.select w).busy = s.busy := rfl
@[simp] theorem State.select_done (w : Word) : (s.select w).done = s.done := rfl
@[simp] theorem State.select_capOvf (w : Word) : (s.select w).capOvf = s.capOvf := rfl
@[simp] theorem State.select_resOvf (w : Word) : (s.select w).resOvf = s.resOvf := rfl
@[simp] theorem State.select_accErr (w : Word) : (s.select w).accErr = s.accErr := rfl
@[simp] theorem State.select_rc (w : Word) : (s.select w).rc = s.rc := rfl
@[simp] theorem State.select_runs (w : Word) : (s.select w).runs = s.runs := rfl
@[simp] theorem State.select_resn (w : Word) : (s.select w).resn = s.resn := rfl
@[simp] theorem State.select_resmem (w : Word) : (s.select w).resmem = s.resmem := rfl
@[simp] theorem State.select_cnt (w : Word) : (s.select w).cnt = s.cnt := rfl
@[simp] theorem State.select_sel (w : Word) : (s.select w).sel = w := rfl
@[simp] theorem State.select_rdata (w : Word) : (s.select w).rdata = s.rdata := rfl
@[simp] theorem State.select_pending (w : Word) : (s.select w).pending = s.pending := rfl
@[simp] theorem State.select_returned (w : Word) : (s.select w).returned = s.returned := rfl
@[simp] theorem State.select_elapsed (w : Word) : (s.select w).elapsed = s.elapsed := rfl
@[simp] theorem State.select_draws (w : Word) : (s.select w).draws = s.draws := rfl

/-! ### `State.answer` -/

@[simp] theorem State.answer_bc (w : Word) : (s.answer w).bc = s.bc := rfl
@[simp] theorem State.answer_capbuf (w : Word) : (s.answer w).capbuf = s.capbuf := rfl
@[simp] theorem State.answer_busy (w : Word) : (s.answer w).busy = s.busy := rfl
@[simp] theorem State.answer_done (w : Word) : (s.answer w).done = s.done := rfl
@[simp] theorem State.answer_capOvf (w : Word) : (s.answer w).capOvf = s.capOvf := rfl
@[simp] theorem State.answer_resOvf (w : Word) : (s.answer w).resOvf = s.resOvf := rfl
@[simp] theorem State.answer_accErr (w : Word) : (s.answer w).accErr = s.accErr := rfl
@[simp] theorem State.answer_rc (w : Word) : (s.answer w).rc = s.rc := rfl
@[simp] theorem State.answer_runs (w : Word) : (s.answer w).runs = s.runs := rfl
@[simp] theorem State.answer_resn (w : Word) : (s.answer w).resn = s.resn := rfl
@[simp] theorem State.answer_resmem (w : Word) : (s.answer w).resmem = s.resmem := rfl
@[simp] theorem State.answer_cnt (w : Word) : (s.answer w).cnt = s.cnt := rfl
@[simp] theorem State.answer_sel (w : Word) : (s.answer w).sel = s.sel := rfl
@[simp] theorem State.answer_rdata (w : Word) : (s.answer w).rdata = w := rfl
@[simp] theorem State.answer_pending (w : Word) : (s.answer w).pending = s.pending := rfl
@[simp] theorem State.answer_returned (w : Word) : (s.answer w).returned = s.returned ++ [w] := rfl
@[simp] theorem State.answer_elapsed (w : Word) : (s.answer w).elapsed = s.elapsed := rfl
@[simp] theorem State.answer_draws (w : Word) : (s.answer w).draws = s.draws := rfl

/-! ### `State.draw` -/

@[simp] theorem State.draw_bc : s.draw.bc = s.bc := rfl
@[simp] theorem State.draw_capbuf : s.draw.capbuf = s.capbuf := rfl
@[simp] theorem State.draw_busy : s.draw.busy = s.busy := rfl
@[simp] theorem State.draw_done : s.draw.done = s.done := rfl
@[simp] theorem State.draw_capOvf : s.draw.capOvf = s.capOvf := rfl
@[simp] theorem State.draw_resOvf : s.draw.resOvf = s.resOvf := rfl
@[simp] theorem State.draw_accErr : s.draw.accErr = s.accErr := rfl
@[simp] theorem State.draw_rc : s.draw.rc = s.rc := rfl
@[simp] theorem State.draw_runs : s.draw.runs = s.runs := rfl
@[simp] theorem State.draw_resn : s.draw.resn = s.resn := rfl
@[simp] theorem State.draw_resmem : s.draw.resmem = s.resmem := rfl
@[simp] theorem State.draw_cnt : s.draw.cnt = s.cnt := rfl
@[simp] theorem State.draw_sel : s.draw.sel = s.sel := rfl
@[simp] theorem State.draw_rdata : s.draw.rdata = s.rdata := rfl
@[simp] theorem State.draw_pending : s.draw.pending = s.pending := rfl
@[simp] theorem State.draw_returned : s.draw.returned = s.returned := rfl
@[simp] theorem State.draw_elapsed : s.draw.elapsed = s.elapsed := rfl
@[simp] theorem State.draw_draws : s.draw.draws = s.draws + 1 := rfl

/-! ### `State.complete` -/

@[simp] theorem State.complete_bc (P : Params) : (s.complete P).bc = s.bc := rfl
@[simp] theorem State.complete_capbuf (P : Params) : (s.complete P).capbuf = s.capbuf := rfl
@[simp] theorem State.complete_busy (P : Params) : (s.complete P).busy = false := rfl
@[simp] theorem State.complete_done (P : Params) : (s.complete P).done = true := rfl
@[simp] theorem State.complete_capOvf (P : Params) : (s.complete P).capOvf = s.capOvf := rfl
@[simp] theorem State.complete_resOvf (P : Params) : (s.complete P).resOvf = decide (P.capResults < (scanCapture s.capture).length) := rfl
@[simp] theorem State.complete_accErr (P : Params) : (s.complete P).accErr = s.accErr := rfl
@[simp] theorem State.complete_rc (P : Params) : (s.complete P).rc = (captureRuns s.capture).length := rfl
@[simp] theorem State.complete_runs (P : Params) : (s.complete P).runs = captureRuns s.capture := rfl
@[simp] theorem State.complete_resn (P : Params) : (s.complete P).resn = min (scanCapture s.capture).length P.capResults := rfl
@[simp] theorem State.complete_resmem (P : Params) : (s.complete P).resmem = (scanCapture s.capture).take P.capResults := rfl
@[simp] theorem State.complete_cnt (P : Params) : (s.complete P).cnt = scanCounters (captureRuns s.capture) := rfl
@[simp] theorem State.complete_sel (P : Params) : (s.complete P).sel = s.sel := rfl
@[simp] theorem State.complete_rdata (P : Params) : (s.complete P).rdata = s.rdata := rfl
@[simp] theorem State.complete_pending (P : Params) : (s.complete P).pending = s.pending := rfl
@[simp] theorem State.complete_returned (P : Params) : (s.complete P).returned = s.returned := rfl
@[simp] theorem State.complete_elapsed (P : Params) : (s.complete P).elapsed = 0 := rfl
@[simp] theorem State.complete_draws (P : Params) : (s.complete P).draws = s.draws := rfl

/-! ### `State.beginCycle` -/

@[simp] theorem State.beginCycle_bc : s.beginCycle.bc = s.bc := rfl
@[simp] theorem State.beginCycle_capbuf : s.beginCycle.capbuf = s.capbuf := rfl
@[simp] theorem State.beginCycle_busy : s.beginCycle.busy = s.busy := rfl
@[simp] theorem State.beginCycle_done : s.beginCycle.done = s.done := rfl
@[simp] theorem State.beginCycle_capOvf : s.beginCycle.capOvf = s.capOvf := rfl
@[simp] theorem State.beginCycle_resOvf : s.beginCycle.resOvf = s.resOvf := rfl
@[simp] theorem State.beginCycle_accErr : s.beginCycle.accErr = s.accErr := rfl
@[simp] theorem State.beginCycle_rc : s.beginCycle.rc = s.rc := rfl
@[simp] theorem State.beginCycle_runs : s.beginCycle.runs = s.runs := rfl
@[simp] theorem State.beginCycle_resn : s.beginCycle.resn = s.resn := rfl
@[simp] theorem State.beginCycle_resmem : s.beginCycle.resmem = s.resmem := rfl
@[simp] theorem State.beginCycle_cnt : s.beginCycle.cnt = s.cnt := rfl
@[simp] theorem State.beginCycle_sel : s.beginCycle.sel = s.sel := rfl
@[simp] theorem State.beginCycle_rdata : s.beginCycle.rdata = 0#32 := rfl
@[simp] theorem State.beginCycle_pending : s.beginCycle.pending = s.pending.tail := rfl
@[simp] theorem State.beginCycle_returned : s.beginCycle.returned = s.returned := rfl
@[simp] theorem State.beginCycle_elapsed : s.beginCycle.elapsed = s.elapsed := rfl
@[simp] theorem State.beginCycle_draws : s.beginCycle.draws = s.cycleDraws := rfl

/-! ### `State.resetEdge` -/

@[simp] theorem State.resetEdge_bc (c : Cycle) : (s.resetEdge c).bc = 0 := rfl
@[simp] theorem State.resetEdge_capbuf (c : Cycle) : (s.resetEdge c).capbuf = [] := rfl
@[simp] theorem State.resetEdge_busy (c : Cycle) : (s.resetEdge c).busy = false := rfl
@[simp] theorem State.resetEdge_done (c : Cycle) : (s.resetEdge c).done = false := rfl
@[simp] theorem State.resetEdge_capOvf (c : Cycle) : (s.resetEdge c).capOvf = false := rfl
@[simp] theorem State.resetEdge_resOvf (c : Cycle) : (s.resetEdge c).resOvf = false := rfl
@[simp] theorem State.resetEdge_accErr (c : Cycle) : (s.resetEdge c).accErr = false := rfl
@[simp] theorem State.resetEdge_rc (c : Cycle) : (s.resetEdge c).rc = 0 := rfl
@[simp] theorem State.resetEdge_runs (c : Cycle) : (s.resetEdge c).runs = [] := rfl
@[simp] theorem State.resetEdge_resn (c : Cycle) : (s.resetEdge c).resn = 0 := rfl
@[simp] theorem State.resetEdge_resmem (c : Cycle) : (s.resetEdge c).resmem = [] := rfl
@[simp] theorem State.resetEdge_cnt (c : Cycle) : (s.resetEdge c).cnt = Counters.zero := rfl
@[simp] theorem State.resetEdge_sel (c : Cycle) : (s.resetEdge c).sel = 0#32 := rfl
@[simp] theorem State.resetEdge_rdata (c : Cycle) : (s.resetEdge c).rdata = 0#32 := rfl
@[simp] theorem State.resetEdge_pending (c : Cycle) : (s.resetEdge c).pending = s.pending := rfl
@[simp] theorem State.resetEdge_returned (c : Cycle) : (s.resetEdge c).returned = s.resetReturned c := rfl
@[simp] theorem State.resetEdge_elapsed (c : Cycle) : (s.resetEdge c).elapsed = 0 := rfl
@[simp] theorem State.resetEdge_draws (c : Cycle) : (s.resetEdge c).draws = s.draws := rfl

/-! ### `State.present` -/

@[simp] theorem State.present_bc (h : Hop) : (s.present h).bc = s.bc := rfl
@[simp] theorem State.present_capbuf (h : Hop) : (s.present h).capbuf = s.capbuf := rfl
@[simp] theorem State.present_busy (h : Hop) : (s.present h).busy = s.busy := rfl
@[simp] theorem State.present_done (h : Hop) : (s.present h).done = s.done := rfl
@[simp] theorem State.present_capOvf (h : Hop) : (s.present h).capOvf = s.capOvf := rfl
@[simp] theorem State.present_resOvf (h : Hop) : (s.present h).resOvf = s.resOvf := rfl
@[simp] theorem State.present_accErr (h : Hop) : (s.present h).accErr = s.accErr := rfl
@[simp] theorem State.present_rc (h : Hop) : (s.present h).rc = s.rc := rfl
@[simp] theorem State.present_runs (h : Hop) : (s.present h).runs = s.runs := rfl
@[simp] theorem State.present_resn (h : Hop) : (s.present h).resn = s.resn := rfl
@[simp] theorem State.present_resmem (h : Hop) : (s.present h).resmem = s.resmem := rfl
@[simp] theorem State.present_cnt (h : Hop) : (s.present h).cnt = s.cnt := rfl
@[simp] theorem State.present_sel (h : Hop) : (s.present h).sel = s.sel := rfl
@[simp] theorem State.present_rdata (h : Hop) : (s.present h).rdata = s.rdata := rfl
@[simp] theorem State.present_pending (h : Hop) : (s.present h).pending = Cycle.ofHop h false :: s.pending := rfl
@[simp] theorem State.present_returned (h : Hop) : (s.present h).returned = s.returned := rfl
@[simp] theorem State.present_elapsed (h : Hop) : (s.present h).elapsed = s.elapsed := rfl
@[simp] theorem State.present_draws (h : Hop) : (s.present h).draws = s.draws := rfl

/-! ### `State.appendByte` -/

@[simp] theorem State.appendByte_bc (b : Byte) : (s.appendByte b).bc = s.bc + 1 := rfl
@[simp] theorem State.appendByte_capbuf (b : Byte) : (s.appendByte b).capbuf = s.capbuf.write s.bc b := rfl
@[simp] theorem State.appendByte_busy (b : Byte) : (s.appendByte b).busy = s.busy := rfl
@[simp] theorem State.appendByte_done (b : Byte) : (s.appendByte b).done = s.done := rfl
@[simp] theorem State.appendByte_capOvf (b : Byte) : (s.appendByte b).capOvf = s.capOvf := rfl
@[simp] theorem State.appendByte_resOvf (b : Byte) : (s.appendByte b).resOvf = s.resOvf := rfl
@[simp] theorem State.appendByte_accErr (b : Byte) : (s.appendByte b).accErr = s.accErr := rfl
@[simp] theorem State.appendByte_rc (b : Byte) : (s.appendByte b).rc = s.rc := rfl
@[simp] theorem State.appendByte_runs (b : Byte) : (s.appendByte b).runs = s.runs := rfl
@[simp] theorem State.appendByte_resn (b : Byte) : (s.appendByte b).resn = s.resn := rfl
@[simp] theorem State.appendByte_resmem (b : Byte) : (s.appendByte b).resmem = s.resmem := rfl
@[simp] theorem State.appendByte_cnt (b : Byte) : (s.appendByte b).cnt = s.cnt := rfl
@[simp] theorem State.appendByte_sel (b : Byte) : (s.appendByte b).sel = s.sel := rfl
@[simp] theorem State.appendByte_rdata (b : Byte) : (s.appendByte b).rdata = s.rdata := rfl
@[simp] theorem State.appendByte_pending (b : Byte) : (s.appendByte b).pending = s.pending := rfl
@[simp] theorem State.appendByte_returned (b : Byte) : (s.appendByte b).returned = s.returned := rfl
@[simp] theorem State.appendByte_elapsed (b : Byte) : (s.appendByte b).elapsed = s.elapsed := rfl
@[simp] theorem State.appendByte_draws (b : Byte) : (s.appendByte b).draws = s.draws := rfl

/-! ### `State.age` -/

@[simp] theorem State.age_bc : s.age.bc = s.bc := rfl
@[simp] theorem State.age_capbuf : s.age.capbuf = s.capbuf := rfl
@[simp] theorem State.age_busy : s.age.busy = s.busy := rfl
@[simp] theorem State.age_done : s.age.done = s.done := rfl
@[simp] theorem State.age_capOvf : s.age.capOvf = s.capOvf := rfl
@[simp] theorem State.age_resOvf : s.age.resOvf = s.resOvf := rfl
@[simp] theorem State.age_accErr : s.age.accErr = s.accErr := rfl
@[simp] theorem State.age_rc : s.age.rc = s.rc := rfl
@[simp] theorem State.age_runs : s.age.runs = s.runs := rfl
@[simp] theorem State.age_resn : s.age.resn = s.resn := rfl
@[simp] theorem State.age_resmem : s.age.resmem = s.resmem := rfl
@[simp] theorem State.age_cnt : s.age.cnt = s.cnt := rfl
@[simp] theorem State.age_sel : s.age.sel = s.sel := rfl
@[simp] theorem State.age_rdata : s.age.rdata = s.rdata := rfl
@[simp] theorem State.age_pending : s.age.pending = s.pending := rfl
@[simp] theorem State.age_returned : s.age.returned = s.returned := rfl
@[simp] theorem State.age_elapsed : s.age.elapsed = s.elapsed + 1 := rfl
@[simp] theorem State.age_draws : s.age.draws = s.draws := rfl

end Sys2Proof.Machine
end

