-- ==== Sys2Proof/Laws/Memory.lean ====
section
/-! SUPPORT. The laws of CAPBUF's memory: reading back, other addresses, and the canonical form. -/

namespace Sys2Proof.Machine

@[simp] theorem Memory.read_nil (a : Nat) : Memory.read [] a = none := rfl

theorem Memory.read_cons (b : Nat) (w : Byte) (m : Memory) (a : Nat) :
    Memory.read ((b, w) :: m) a = if b = a then some w else Memory.read m a := rfl

theorem Memory.write_cons (b : Nat) (w : Byte) (m : Memory) (a : Nat) (v : Byte) :
    Memory.write ((b, w) :: m) a v
      = if a < b then (a, v) :: (b, w) :: m else if a = b then (a, v) :: m else (b, w) :: Memory.write m a v := rfl

/-- A read of the address written gives the byte written. -/
@[simp] theorem Memory.read_write_same (m : Memory) (a : Nat) (v : Byte) : (Memory.write m a v).read a = some v := by
  induction m with
  | nil => simp [Memory.write, Memory.read_cons]
  | cons e rest ih =>
    obtain ⟨b, w⟩ := e
    rw [Memory.write_cons]
    split
    · simp [Memory.read_cons]
    · split
      · simp [Memory.read_cons]
      · simp [Memory.read_cons, ih]; omega

/-- A write leaves every other address alone. -/
theorem Memory.read_write_other (m : Memory) {a c : Nat} (v : Byte) (h : c ≠ a) :
    (Memory.write m a v).read c = Memory.read m c := by
  induction m with
  | nil => simp [Memory.write, Memory.read_cons, Ne.symm h]
  | cons e rest ih =>
    obtain ⟨b, w⟩ := e
    rw [Memory.write_cons]
    split
    · simp [Memory.read_cons, Ne.symm h]
    · split
      · subst b; simp [Memory.read_cons, Ne.symm h]
      · simp [Memory.read_cons, ih]

theorem Memory.risesFrom_cons (low b : Nat) (w : Byte) (m : Memory) :
    Memory.risesFrom low ((b, w) :: m) = (decide (low ≤ b) && Memory.risesFrom (b + 1) m) := rfl

/-- A write keeps the canonical form. -/
theorem Memory.risesFrom_write (m : Memory) {low a : Nat} (v : Byte) (h : Memory.risesFrom low m = true) (ha : low ≤ a) :
    Memory.risesFrom low (Memory.write m a v) = true := by
  induction m generalizing low with
  | nil => simp [Memory.write, Memory.risesFrom, ha]
  | cons e rest ih =>
    obtain ⟨b, w⟩ := e
    simp only [Memory.risesFrom_cons, Bool.and_eq_true, decide_eq_true_eq] at h
    rw [Memory.write_cons]
    split
    · simp only [Memory.risesFrom_cons, Bool.and_eq_true, decide_eq_true_eq]
      exact ⟨ha, by omega, h.2⟩
    · split
      · subst b; simp [Memory.risesFrom_cons, h]
      · simp only [Memory.risesFrom_cons, Bool.and_eq_true, decide_eq_true_eq]
        exact ⟨h.1, ih h.2 (by omega)⟩

/-- Every write keeps `Memory.wf`. -/
theorem Memory.wf_write (m : Memory) (a : Nat) (v : Byte) (h : m.wf = true) : (Memory.write m a v).wf = true :=
  Memory.risesFrom_write m v h (Nat.zero_le a)

/-- The empty memory, which reset and an accepted CLEAR leave, is canonical. -/
@[simp] theorem Memory.wf_nil : Memory.wf [] = true := rfl

/-- The memory after reset is canonical. -/
theorem State.reset_capbuf_wf : State.reset.capbuf.wf = true := rfl

/-- Appending above every listed address adds one entry at the end. -/
theorem Memory.write_append (m : Memory) (a : Nat) (v : Byte) (h : ∀ e ∈ m, e.1 < a) :
    Memory.write m a v = m ++ [(a, v)] := by
  induction m with
  | nil => rfl
  | cons e rest ih =>
    obtain ⟨b, w⟩ := e
    have hb : b < a := h (b, w) (by simp)
    rw [Memory.write_cons, if_neg (by omega), if_neg (by omega), ih fun e he => h e (by simp [he])]
    rfl

end Sys2Proof.Machine
end

