-- ==== Sys2Proof/Laws/Ops.lean ====
section
/-! SUPPORT. What each shared operation can do, each said once, and `exec` by constructor. -/

namespace Sys2Proof.Machine

/-! ### Commands -/

theorem State.clear_busy {s : State} (h : s.busy = true) : s.clear = s.rejectWrite := by simp [State.clear, h]

theorem State.clear_idle {s : State} (h : s.busy = false) : s.clear = s.clearAll := by simp [State.clear, h]

theorem State.start_busy {s : State} (h : s.busy = true) : s.start = s.rejectWrite := by simp [State.start, h]

theorem State.start_idle {s : State} (h : s.busy = false) : s.start = s.beginScan := by simp [State.start, h]

theorem State.pushByte_busy {s : State} (P : Params) (b : Byte) (h : s.busy = true) :
    s.pushByte P b = s.rejectWrite := by simp [State.pushByte, h]

theorem State.pushByte_full {s : State} {P : Params} (b : Byte) (h : s.busy = false) (hc : s.bc = P.capBytes) :
    s.pushByte P b = s.dropByte := by simp [State.pushByte, h, hc]

theorem State.pushByte_room {s : State} {P : Params} (b : Byte) (h : s.busy = false) (hc : s.bc ≠ P.capBytes) :
    s.pushByte P b = s.appendByte b := by simp [State.pushByte, h, hc]

/-- CLEAR is rejected or accepted. -/
theorem State.clear_cases (s : State) :
    (s.busy = true ∧ s.clear = s.rejectWrite) ∨ (s.busy = false ∧ s.clear = s.clearAll) := by
  cases h : s.busy
  · exact .inr ⟨rfl, s.clear_idle h⟩
  · exact .inl ⟨rfl, s.clear_busy h⟩

/-- START is rejected or accepted. -/
theorem State.start_cases (s : State) :
    (s.busy = true ∧ s.start = s.rejectWrite) ∨ (s.busy = false ∧ s.start = s.beginScan) := by
  cases h : s.busy
  · exact .inr ⟨rfl, s.start_idle h⟩
  · exact .inl ⟨rfl, s.start_busy h⟩

/-- PUSHB is rejected, drops its byte, or appends it. -/
theorem State.pushByte_cases (s : State) (P : Params) (b : Byte) :
    (s.busy = true ∧ s.pushByte P b = s.rejectWrite) ∨
    (s.busy = false ∧ s.bc = P.capBytes ∧ s.pushByte P b = s.dropByte) ∨
    (s.busy = false ∧ s.bc ≠ P.capBytes ∧
      s.pushByte P b = s.appendByte b) := by
  cases h : s.busy
  · by_cases hc : s.bc = P.capBytes
    · exact .inr (.inl ⟨rfl, hc, s.pushByte_full b h hc⟩)
    · exact .inr (.inr ⟨rfl, hc, s.pushByte_room b h hc⟩)
  · exact .inl ⟨rfl, s.pushByte_busy P b h⟩

/-! ### Reads -/

theorem State.answerResult_busy {s : State} (w : Word) (h : s.busy = true) :
    s.answerResult w = s.draw.answer (Config.freeRead s.draws) := by simp [State.answerResult, h]

theorem State.answerResult_idle {s : State} (w : Word) (h : s.busy = false) :
    s.answerResult w = s.answer w := by simp [State.answerResult, h]

/-- A read changes nothing but the outputs and the count of free values. -/
theorem State.answerResult_frame (s : State) (w : Word) :
    ∃ v n, s.answerResult w = { s with rdata := v, returned := s.returned ++ [v], draws := n } := by
  by_cases h : s.busy = true
  · exact ⟨_, s.draws + 1, s.answerResult_busy w h⟩
  · exact ⟨w, s.draws, s.answerResult_idle w (by simpa using h)⟩

/-! ### The sequencer -/

/-- The edge of a busy cycle completes the scan or makes it one cycle older, in which case LAT_MAX is not yet reached. -/
theorem State.scanEdge_cases (s : State) (P : Params) (finish : Bool) :
    s.scanEdge P finish = s.complete P ∨
    (finish = false ∧ s.elapsed + 1 < P.latMax s.bc ∧ s.scanEdge P finish = s.age) := by
  unfold State.scanEdge
  split
  · exact .inl rfl
  · rename_i h
    simp only [Bool.or_eq_true, decide_eq_true_eq, not_or] at h
    exact .inr ⟨by simpa using h.1, by omega, rfl⟩

/-- A scan whose completion falls here, or that has reached LAT_MAX, completes. -/
theorem State.scanEdge_completes {s : State} {P : Params} {finish : Bool}
    (h : finish = true ∨ P.latMax s.bc ≤ s.elapsed + 1) : s.scanEdge P finish = s.complete P := by
  unfold State.scanEdge
  rw [if_pos]
  simpa using h

@[simp] theorem State.sequencerEdge_idle (s : State) (P : Params) (finish : Bool) :
    s.sequencerEdge P false finish = s := rfl

@[simp] theorem State.sequencerEdge_busy (s : State) (P : Params) (finish : Bool) :
    s.sequencerEdge P true finish = s.scanEdge P finish := rfl

/-! ### Parameters -/

theorem Config.one_le_capBytes : 1 ≤ Config.params.capBytes := Nat.le_add_left 1 _

theorem Config.capBytes_le : Config.params.capBytes ≤ 2 ^ 28 := by
  have := Config.capBytesLessOne.isLt
  simp only [Config.params]
  omega

theorem Config.one_le_capResults : 1 ≤ Config.params.capResults := Nat.le_add_left 1 _

theorem Config.capResults_le : Config.params.capResults ≤ 2 ^ 31 := by
  have := Config.capResultsLessOne.isLt
  simp only [Config.params]
  omega

theorem Config.one_le_latMax (bc : Nat) : 1 ≤ Config.params.latMax bc := Nat.le_add_left 1 _

/-! ### The capture -/

/-- The capture has BC bytes. -/
@[simp] theorem State.capture_length (s : State) : s.capture.length = s.bc := by simp [State.capture]

/-- The capture depends on CAPBUF and BC alone. -/
theorem State.capture_congr {s t : State} (hm : t.capbuf = s.capbuf) (hb : t.bc = s.bc) : t.capture = s.capture := by
  unfold State.capture State.captureByte
  rw [hm, hb]

/-! ### The cycle -/

@[simp] theorem State.currentCycle_nil {s : State} (h : s.pending = []) :
    s.currentCycle = Cycle.idle (Config.freeFinish s.draws) := by simp [State.currentCycle, h]

@[simp] theorem State.currentCycle_cons {s : State} {c : Cycle} {rest : List Cycle} (h : s.pending = c :: rest) :
    s.currentCycle = c := by simp [State.currentCycle, h]

@[simp] theorem hopW_hopOf (w : Bool) (a : Addr) (d : Word) : hopW (hopOf w a d) = w := by
  simp only [hopW, hopOf, BitVec.getLsbD_append]
  simp

theorem hopD_hopOf (w : Bool) (a : Addr) (d : Word) : hopD (hopOf w a d) = d := by
  unfold hopD hopOf
  ext i hi
  simp only [BitVec.getElem_extractLsb', BitVec.getLsbD_append]
  simp [hi]

theorem hopA_hopOf (w : Bool) (a : Addr) (d : Word) : hopA (hopOf w a d) = a := by
  unfold hopA hopOf
  ext i hi
  simp only [BitVec.getElem_extractLsb', BitVec.getLsbD_append]
  simp [hi]

end Sys2Proof.Machine
end

