-- ==== Sys2Proof/Laws/PerInstr.lean ====
section
/-! SUPPORT. Family `TableRow`: the canonical word of every well-formed operation lies in its row of spec/opcode_table.json. -/

namespace Sys2Proof

/-- The words of a host operation word's fields are masked field by field. -/
theorem hopOf_and (w w' : Bool) (a a' : Addr) (d d' : Word) :
    hopOf w a d &&& hopOf w' a' d' = hopOf (w && w') (a &&& a') (d &&& d') := by
  unfold hopOf
  rw [BitVec.and_append, BitVec.and_append, BitVec.ofBool_and_ofBool]

namespace Laws.TableRow

/-- The canonical word of a well-formed operation lies in the operation's row of the opcode table. -/
def Statement (i : Instr) : Prop :=
  i.wf = true → ((opcodeRows[i.rowIndex]?).map fun r => r.holds (encode i)) = some true

/-- A word of a row whose mask covers W and A only. -/
theorem holds_of_address (w : Bool) (a : Addr) (d : Word) :
    OpcodeRow.holds ⟨hopOf w a 0#32, hopOf true 15#4 0#32⟩ (hopOf w a d) = true := by
  have ha : a &&& 15#4 = a := by revert a; decide
  simp [OpcodeRow.holds, hopOf_and, ha]

theorem nop : Statement .nop := fun _ => by decide

theorem clear : Statement .clear := fun _ => by decide

theorem start : Statement .start := fun _ => by decide

theorem rsvdCmd3 : Statement .rsvdCmd3 := fun _ => by decide

theorem rsvdCmd4 (cmd : BitVec 4) : Statement (.rsvdCmd4 cmd) := by
  revert cmd; unfold Statement; decide

theorem rsvdCmd8 (cmd : BitVec 4) : Statement (.rsvdCmd8 cmd) := by
  revert cmd; unfold Statement; decide

theorem pushb (byte : Byte) : Statement (.pushb byte) := fun _ =>
  congrArg some (holds_of_address true 2#4 (byte.setWidth 32))

theorem wrsel (sel : Word) : Statement (.wrsel sel) := fun _ =>
  congrArg some (holds_of_address true 6#4 sel)

theorem wrIgn1 : Statement .wrIgn1 := fun _ => by decide

theorem wrIgn3 : Statement .wrIgn3 := fun _ => by decide

theorem wrIgn4 (addr : Addr) : Statement (.wrIgn4 addr) := by
  revert addr; unfold Statement; decide

theorem wrIgn7 : Statement .wrIgn7 := fun _ => by decide

theorem wrIgn8 (addr : Addr) : Statement (.wrIgn8 addr) := by
  revert addr; unfold Statement; decide

theorem rdStatus : Statement .rdStatus := fun _ => by decide

theorem rdByteCount : Statement .rdByteCount := fun _ => by decide

theorem rdRunCount : Statement .rdRunCount := fun _ => by decide

theorem rdResultCount : Statement .rdResultCount := fun _ => by decide

theorem rdResultSel : Statement .rdResultSel := fun _ => by decide

theorem rdResultLo : Statement .rdResultLo := fun _ => by decide

theorem rdResultHi : Statement .rdResultHi := fun _ => by decide

theorem rdResultIdx : Statement .rdResultIdx := fun _ => by decide

theorem rdCntNomatch : Statement .rdCntNomatch := fun _ => by decide

theorem rdCntCollision : Statement .rdCntCollision := fun _ => by decide

theorem rdCntTrunc : Statement .rdCntTrunc := fun _ => by decide

theorem rdCntChecksum : Statement .rdCntChecksum := fun _ => by decide

theorem rdCntDecoded : Statement .rdCntDecoded := fun _ => by decide

theorem rdZero0 : Statement .rdZero0 := fun _ => by decide

theorem rdZero2 : Statement .rdZero2 := fun _ => by decide

theorem rdZero15 : Statement .rdZero15 := fun _ => by decide

end Laws.TableRow

end Sys2Proof
end

