-- ==== Sys2Proof/Laws/Step.lean ====
section
/-! SUPPORT. `exec` by constructor, `step` by kind of cycle, and what each can do at all, said once. -/

namespace Sys2Proof.Machine

/-! ### `exec` by constructor -/

@[simp] theorem exec_nop (s : State) : exec .nop s = .next s := rfl

@[simp] theorem exec_clear (s : State) : exec .clear s = .next s.clear := rfl

@[simp] theorem exec_start (s : State) : exec .start s = .next s.start := rfl

@[simp] theorem exec_rsvdCmd3 (s : State) : exec .rsvdCmd3 s = .next s.rejectWrite := rfl

@[simp] theorem exec_rsvdCmd4 (cmd : BitVec 4) (s : State) : exec (.rsvdCmd4 cmd) s = .next s.rejectWrite := rfl

@[simp] theorem exec_rsvdCmd8 (cmd : BitVec 4) (s : State) : exec (.rsvdCmd8 cmd) s = .next s.rejectWrite := rfl

@[simp] theorem exec_pushb (byte : Byte) (s : State) : exec (.pushb byte) s = .next (s.pushByte Config.params byte) := rfl

@[simp] theorem exec_wrsel (sel : Word) (s : State) : exec (.wrsel sel) s = .next (s.select sel) := rfl

@[simp] theorem exec_wrIgn1 (s : State) : exec .wrIgn1 s = .next s := rfl

@[simp] theorem exec_wrIgn3 (s : State) : exec .wrIgn3 s = .next s := rfl

@[simp] theorem exec_wrIgn4 (addr : Addr) (s : State) : exec (.wrIgn4 addr) s = .next s := rfl

@[simp] theorem exec_wrIgn7 (s : State) : exec .wrIgn7 s = .next s := rfl

@[simp] theorem exec_wrIgn8 (addr : Addr) (s : State) : exec (.wrIgn8 addr) s = .next s := rfl

@[simp] theorem exec_rdStatus (s : State) : exec .rdStatus s = .next (s.answer s.statusWord) := rfl

@[simp] theorem exec_rdByteCount (s : State) : exec .rdByteCount s = .next (s.answer s.byteCountWord) := rfl

@[simp] theorem exec_rdRunCount (s : State) : exec .rdRunCount s = .next (s.answerResult s.runCountWord) := rfl

@[simp] theorem exec_rdResultCount (s : State) : exec .rdResultCount s = .next (s.answerResult s.resultCountWord) := rfl

@[simp] theorem exec_rdResultSel (s : State) : exec .rdResultSel s = .next (s.answer s.sel) := rfl

@[simp] theorem exec_rdResultLo (s : State) : exec .rdResultLo s = .next (s.answerResult s.resultLoWord) := rfl

@[simp] theorem exec_rdResultHi (s : State) : exec .rdResultHi s = .next (s.answerResult s.resultHiWord) := rfl

@[simp] theorem exec_rdResultIdx (s : State) : exec .rdResultIdx s = .next (s.answerResult s.resultIdxWord) := rfl

@[simp] theorem exec_rdCntNomatch (s : State) : exec .rdCntNomatch s = .next (s.answerResult (countWord s.cnt.noMatch)) := rfl

@[simp] theorem exec_rdCntCollision (s : State) : exec .rdCntCollision s = .next (s.answerResult (countWord s.cnt.collision)) := rfl

@[simp] theorem exec_rdCntTrunc (s : State) : exec .rdCntTrunc s = .next (s.answerResult (countWord s.cnt.truncated)) := rfl

@[simp] theorem exec_rdCntChecksum (s : State) : exec .rdCntChecksum s = .next (s.answerResult (countWord s.cnt.checksum)) := rfl

@[simp] theorem exec_rdCntDecoded (s : State) : exec .rdCntDecoded s = .next (s.answerResult (countWord s.cnt.decoded)) := rfl

@[simp] theorem exec_rdZero0 (s : State) : exec .rdZero0 s = .next (s.answer 0#32) := rfl

@[simp] theorem exec_rdZero2 (s : State) : exec .rdZero2 s = .next (s.answer 0#32) := rfl

@[simp] theorem exec_rdZero15 (s : State) : exec .rdZero15 s = .next (s.answer 0#32) := rfl

/-- `exec` answers a next state for every operation in every state. -/
theorem exec_answers (i : Instr) (s : State) : ∃ t, exec i s = .next t := by
  cases i <;> exact ⟨_, rfl⟩

/-- What an operation leaves is one of eight things: the state itself, a set ACC_ERR or CAP_OVF, an appended byte, an
accepted CLEAR or START, a new SEL, or a read's answer. -/
theorem exec_cases {i : Instr} {s t : State} (h : exec i s = .next t) :
    t = s ∨ t = s.rejectWrite ∨ t = s.dropByte ∨
    (∃ b, i = .pushb b ∧ s.busy = false ∧ s.bc ≠ Config.params.capBytes ∧ t = s.appendByte b) ∨
    (i = .clear ∧ s.busy = false ∧ t = s.clearAll) ∨ (i = .start ∧ s.busy = false ∧ t = s.beginScan) ∨
    (∃ k, i = .wrsel k ∧ t = s.select k) ∨
    ∃ w n, t = { s with rdata := w, returned := s.returned ++ [w], draws := n } := by
  have read : ∀ w, ∃ v n, s.answerResult w = { s with rdata := v, returned := s.returned ++ [v], draws := n } :=
    s.answerResult_frame
  cases i <;> simp only [exec_nop, exec_clear, exec_start, exec_rsvdCmd3, exec_rsvdCmd4, exec_rsvdCmd8, exec_pushb,
    exec_wrsel, exec_wrIgn1, exec_wrIgn3, exec_wrIgn4, exec_wrIgn7, exec_wrIgn8, exec_rdStatus, exec_rdByteCount,
    exec_rdRunCount, exec_rdResultCount, exec_rdResultSel, exec_rdResultLo, exec_rdResultHi, exec_rdResultIdx,
    exec_rdCntNomatch, exec_rdCntCollision, exec_rdCntTrunc, exec_rdCntChecksum, exec_rdCntDecoded, exec_rdZero0,
    exec_rdZero2, exec_rdZero15, Host.Outcome.next.injEq] at h <;> subst h
  case clear =>
    obtain ⟨_, h⟩ | ⟨hb, h⟩ := s.clear_cases <;> rw [h]
    · exact .inr (.inl rfl)
    · exact .inr (.inr (.inr (.inr (.inl ⟨rfl, hb, rfl⟩))))
  case start =>
    obtain ⟨_, h⟩ | ⟨hb, h⟩ := s.start_cases <;> rw [h]
    · exact .inr (.inl rfl)
    · exact .inr (.inr (.inr (.inr (.inr (.inl ⟨rfl, hb, rfl⟩)))))
  case pushb b =>
    obtain ⟨_, h⟩ | ⟨_, _, h⟩ | ⟨hb, hc, h⟩ := s.pushByte_cases Config.params b <;> rw [h]
    · exact .inr (.inl rfl)
    · exact .inr (.inr (.inl rfl))
    · exact .inr (.inr (.inr (.inl ⟨b, rfl, hb, hc, rfl⟩)))
  case wrsel k => exact .inr (.inr (.inr (.inr (.inr (.inr (.inl ⟨k, rfl, rfl⟩))))))
  case rsvdCmd3 => exact .inr (.inl rfl)
  case rsvdCmd4 => exact .inr (.inl rfl)
  case rsvdCmd8 => exact .inr (.inl rfl)
  all_goals first
    | exact .inl rfl
    | exact .inr (.inr (.inr (.inr (.inr (.inr (.inr ⟨_, s.draws, rfl⟩))))))
    | exact .inr (.inr (.inr (.inr (.inr (.inr (.inr (read _)))))))

/-! ### `step` by kind of cycle -/

/-- A reset cycle. -/
theorem step_reset {s : State} (h : s.currentCycle.rst = true) :
    step s = .next (s.beginCycle.resetEdge s.currentCycle) := by
  simp only [step, h, if_true]

/-- A cycle with a transaction. -/
theorem step_transaction {s u : State} (h : s.currentCycle.rst = false) (hs : s.currentCycle.busSel = true)
    (hu : exec (decode s.currentCycle.hop) s.beginCycle = .next u) :
    step s = .next (u.sequencerEdge Config.params s.busy s.currentCycle.finish) := by
  simp only [step, h, hs, hu, if_true, Bool.false_eq_true, if_false, endCycle]

/-- A cycle without a transaction. -/
theorem step_quiet {s : State} (h : s.currentCycle.rst = false) (hs : s.currentCycle.busSel = false) :
    step s = .next (s.beginCycle.sequencerEdge Config.params s.busy s.currentCycle.finish) := by
  simp only [step, h, hs, Bool.false_eq_true, if_false, endCycle]

/-- What a step leaves: a reset, or the sequencer's edge after the cycle's transaction, or the edge alone. -/
theorem step_cases {s t : State} (h : step s = .next t) :
    (s.currentCycle.rst = true ∧ t = s.beginCycle.resetEdge s.currentCycle) ∨
    (s.currentCycle.rst = false ∧ s.currentCycle.busSel = true ∧
      ∃ u, exec (decode s.currentCycle.hop) s.beginCycle = .next u ∧
        t = u.sequencerEdge Config.params s.busy s.currentCycle.finish) ∨
    (s.currentCycle.rst = false ∧ s.currentCycle.busSel = false ∧
      t = s.beginCycle.sequencerEdge Config.params s.busy s.currentCycle.finish) := by
  cases hr : s.currentCycle.rst
  · cases hs : s.currentCycle.busSel
    · rw [step_quiet hr hs] at h
      exact .inr (.inr ⟨rfl, rfl, (Host.Outcome.next.inj h).symm⟩)
    · obtain ⟨u, hu⟩ := exec_answers (decode s.currentCycle.hop) s.beginCycle
      rw [step_transaction hr hs hu] at h
      exact .inr (.inl ⟨rfl, rfl, u, hu, (Host.Outcome.next.inj h).symm⟩)
  · rw [step_reset hr] at h
    exact .inl ⟨rfl, (Host.Outcome.next.inj h).symm⟩

/-- One more step of a run. -/
theorem run_succ {s t : State} (k : Nat) (h : step s = .next t) :
    Sys2Proof.core.run (k + 1) s = Sys2Proof.core.run k t := by
  have h' : Sys2Proof.core.step s = .next t := h
  simp only [Host.Core.run, h']

end Sys2Proof.Machine
end

