-- ==== Sys2Proof/Tests/Slice0.lean ====
section
/-! SUPPORT. The model's own tests: ill-formed terms, words written out from the spec's encodings, the vectors of
95_test_vectors.md, one step per operation, and for every statement with hypotheses a witness that meets them. -/

open Sys2Proof Sys2Proof.Machine

namespace Sys2Proof.Tests

/-! ### Helpers -/

/-- The state of an outcome; the reset state for one that has none, which no outcome of this machine lacks. -/
def after (o : Host.Outcome State Fault Refusal) : State :=
  match o with
  | .next t => t
  | .fault _ => State.reset
  | .refused _ => State.reset

/-- Parameters of V-HOST-4: CAP_BYTES = 2; and of V-HOST-12: CAP_RESULTS = 1. -/
def small : Params := ⟨2, 1, fun _ => 100⟩

/-- A scan in progress on an empty capture. -/
def busy : State := { State.reset with busy := true }

/-- A scan in progress with CAPBUF full. -/
def busyFull : State := { State.reset with busy := true, bc := Config.params.capBytes }

/-- An idle block with CAPBUF full. -/
def full : State := { State.reset with bc := Config.params.capBytes }

/-- An idle block holding two results, the second selected. -/
def twoResults : State :=
  { State.reset with
    done := true, rc := 205, resn := 2, resmem := [⟨0x0123456789#40, 1⟩, ⟨0xFEDCBA9876#40, 103⟩]
    cnt := ⟨2, 203, 0, 0, 0⟩, sel := 1#32 }

/-- A completed scan of the one byte 00: no runs, no results. -/
def doneOneByte : State := { State.reset with bc := 1, capbuf := [(0, 0x00#8)], done := true }

/-- A scan in progress of the one byte 00. -/
def busyOneByte : State := { State.reset with bc := 1, capbuf := [(0, 0x00#8)], busy := true }

/-- A reset cycle that also carries a read. -/
def resetWithRead : Cycle := ⟨true, true, false, 1#4, 0#32, false⟩

/-- A cycle that carries a word and completes a scan. -/
def finishing (h : Hop) : Cycle := Cycle.ofHop h true

/-! ### WellFormed: one ill-formed term per check -/

theorem test_wf_rsvdCmd4_low : (Instr.rsvdCmd4 3#4).wf = false := by decide
theorem test_wf_rsvdCmd4_high : (Instr.rsvdCmd4 8#4).wf = false := by decide
theorem test_wf_rsvdCmd8 : (Instr.rsvdCmd8 7#4).wf = false := by decide
theorem test_wf_wrIgn4 : (Instr.wrIgn4 6#4).wf = false := by decide
theorem test_wf_wrIgn8 : (Instr.wrIgn8 7#4).wf = false := by decide

/-! ### Decode: a word written out from R80, R83 and R85 for every constructor -/

theorem test_decode_nop : decode 0b1000000000000000000000000000000000000#37 = .nop := by decide
theorem test_decode_nop_ignored : decode 0b1000011111111111111111111111111110000#37 = .nop := by decide
theorem test_decode_clear : decode 0b1000000000000000000000000000000000001#37 = .clear := by decide
theorem test_decode_start : decode 0b1000000000000000000000000000000000010#37 = .start := by decide
theorem test_decode_start_ignored : decode 0b1000000000000000000000000000000010010#37 = .start := by decide
theorem test_decode_rsvdCmd3 : decode 0b1000000000000000000000000000000000011#37 = .rsvdCmd3 := by decide
theorem test_decode_rsvdCmd4 : decode 0b1000000000000000000000000000000000110#37 = (.rsvdCmd4 6#4) := by decide
theorem test_decode_rsvdCmd8 : decode 0b1000000000000000000000000000000001101#37 = (.rsvdCmd8 13#4) := by decide
theorem test_decode_pushb : decode 0b1001000000000000000000000000010100101#37 = (.pushb 0xA5#8) := by decide
theorem test_decode_wrsel : decode 0b1011011111110110111001011101010011000#37 = (.wrsel 0xFEDCBA98#32) := by decide
theorem test_decode_wrIgn1 : decode 0b1000111111111111111111111111111111111#37 = .wrIgn1 := by decide
theorem test_decode_wrIgn3 : decode 0b1001100000000000000000000000000000001#37 = .wrIgn3 := by decide
theorem test_decode_wrIgn4 : decode 0b1010100000000000000000000000000000000#37 = (.wrIgn4 5#4) := by decide
theorem test_decode_wrIgn7 : decode 0b1011100000000000000000000000000000000#37 = .wrIgn7 := by decide
theorem test_decode_wrIgn8 : decode 0b1111100000000000000000000000000000000#37 = (.wrIgn8 15#4) := by decide
theorem test_decode_rdStatus : decode 0b0000100000000000000000000000000000000#37 = .rdStatus := by decide
theorem test_decode_rdByteCount : decode 0b0001100000000000000000000000000000000#37 = .rdByteCount := by decide
theorem test_decode_rdRunCount : decode 0b0010000000000000000000000000000000000#37 = .rdRunCount := by decide
theorem test_decode_rdResultCount : decode 0b0010100000000000000000000000000000000#37 = .rdResultCount := by decide
theorem test_decode_rdResultSel : decode 0b0011000000000000000000000000000000000#37 = .rdResultSel := by decide
theorem test_decode_rdResultLo : decode 0b0011100000000000000000000000000000000#37 = .rdResultLo := by decide
theorem test_decode_rdResultHi : decode 0b0100000000000000000000000000000000000#37 = .rdResultHi := by decide
theorem test_decode_rdResultIdx : decode 0b0100100000000000000000000000000000000#37 = .rdResultIdx := by decide
theorem test_decode_rdCntNomatch : decode 0b0101000000000000000000000000000000000#37 = .rdCntNomatch := by decide
theorem test_decode_rdCntCollision : decode 0b0101100000000000000000000000000000000#37 = .rdCntCollision := by decide
theorem test_decode_rdCntTrunc : decode 0b0110000000000000000000000000000000000#37 = .rdCntTrunc := by decide
theorem test_decode_rdCntChecksum : decode 0b0110100000000000000000000000000000000#37 = .rdCntChecksum := by decide
theorem test_decode_rdCntDecoded : decode 0b0111000000000000000000000000000000000#37 = .rdCntDecoded := by decide
theorem test_decode_rdZero0 : decode 0b0000000000000000000000000000000000000#37 = .rdZero0 := by decide
theorem test_decode_rdZero2 : decode 0b0001000000000000000000000000000000000#37 = .rdZero2 := by decide
theorem test_decode_rdZero15 : decode 0b0111111111111111111111111111111111111#37 = .rdZero15 := by decide

/-- A number with a 38th bit is no host operation word. -/
theorem test_decode_too_wide : decodeWord (2 ^ 37) = .error .moreThan37Bits := by rfl

theorem test_table_word : decodeTableWord 40 0x16FFFFFFFF = some (.wrsel 0xFFFFFFFF#32) := by decide

/-! ### The datapath, on vectors of 95_test_vectors.md -/

/-- V-EXP-2. -/
theorem test_expand : expand [0xA5#8, 0x0F#8]
    = [true, false, true, false, false, true, false, true, false, false, false, false, true, true, true, true] := by decide

/-- V-RLE-5. -/
theorem test_rle_bytes : captureRuns [0xA5#8, 0x0F#8]
    = [⟨false, 0⟩, ⟨true, 1⟩, ⟨false, 1⟩, ⟨true, 2⟩, ⟨false, 1⟩, ⟨true, 1⟩, ⟨false, 1⟩, ⟨true, 4⟩] := by decide

/-- V-RLE-2. -/
theorem test_rle_samples : rle [false, false, false, true, true, false] = [⟨true, 2⟩, ⟨false, 2⟩] := by decide

/-- V-RLE-9: the first run is one shorter than its span. -/
theorem test_rle_first_span : captureRuns [0xF0#8, 0x0F#8] = [⟨false, 3⟩, ⟨true, 8⟩] := by decide

/-- The eight short pairs of the sequence P of V-MAT-1. -/
def shortPairs : List Run := (List.replicate 8 [⟨false, 5⟩, ⟨true, 5⟩]).flatten

/-- V-MAT-1, V-MAT-2, V-MAT-5b. -/
theorem test_match : matchPreamble (⟨true, 40⟩ :: shortPairs) 0 = some 17 ∧
    matchPreamble (⟨true, 40⟩ :: shortPairs) 1 = none ∧ matchPreamble (⟨true, 40⟩ :: shortPairs) 17 = none := by decide

/-- V-MAT-3a, V-MAT-3b, V-MAT-5a. -/
theorem test_match_sync : matchPreamble (⟨true, 30⟩ :: shortPairs) 0 = some 17 ∧
    matchPreamble (⟨true, 29⟩ :: shortPairs) 0 = none ∧
    matchPreamble ((⟨true, 40⟩ :: shortPairs).take 16) 0 = none := by decide

/-- V-MAT-3d, V-MAT-3e. -/
theorem test_match_pair : matchPreamble (⟨true, 40⟩ :: ⟨false, 30⟩ :: shortPairs.tail) 0 = some 17 ∧
    matchPreamble (⟨true, 40⟩ :: ⟨false, 31⟩ :: shortPairs.tail) 0 = none := by decide

/-- V-MAT-6: overlapping matches. -/
theorem test_match_overlap : matchPreamble (⟨true, 30⟩ :: ⟨false, 5⟩ :: ⟨true, 30⟩ :: shortPairs) 0 = some 17 ∧
    matchPreamble (⟨true, 30⟩ :: ⟨false, 5⟩ :: ⟨true, 30⟩ :: shortPairs) 2 = some 19 := by decide

/-- `n` long runs, and `n` short ones, of section 2.4. -/
def longs (n : Nat) : List Run := List.replicate n ⟨false, 40⟩
def shorts (n : Nat) : List Run := List.replicate n ⟨false, 5⟩

/-- V-REC-1: body[k] = k mod 2. -/
theorem test_recon_toggles : recon (longs 55) 0
    = .ok (List.replicate 9 true ++ (List.range 55).map fun k => k % 2 == 1) := by rfl

/-- V-REC-8a. -/
theorem test_recon_holds : recon (shorts 110) 0 = .ok (List.replicate 64 true) := by rfl

/-- V-REC-2, V-REC-3, V-REC-4c: a duration of 30 is a hold and may follow one, 31 is a toggle. -/
theorem test_recon_boundary :
    recon ([⟨false, 30⟩, ⟨true, 30⟩] ++ longs 54) 0
      = .ok (List.replicate 10 true ++ (List.range 54).map fun k => k % 2 == 1) ∧
    recon (⟨false, 31⟩ :: longs 54) 0 = recon (longs 55) 0 ∧
    recon ([⟨false, 5⟩, ⟨true, 30⟩] ++ longs 54) 0
      = .ok (List.replicate 10 true ++ (List.range 54).map fun k => k % 2 == 1) := by decide +kernel

/-- V-REC-4a, V-REC-4b. -/
theorem test_recon_collision : recon [⟨false, 5⟩, ⟨true, 40⟩] 0 = .error .collision ∧
    recon [⟨false, 5⟩, ⟨true, 31⟩] 0 = .error .collision := ⟨rfl, rfl⟩

/-- V-REC-5a, V-REC-5b, V-REC-5c. -/
theorem test_recon_truncated : recon (longs 55) 55 = .error .truncated ∧
    recon (longs 10 ++ shorts 1) 0 = .error .truncated ∧ recon (longs 54) 0 = .error .truncated := ⟨rfl, rfl, rfl⟩

/-- V-REC-6, V-REC-7a: the hold that makes the 64th bit is peeked too. -/
theorem test_recon_last_peek : recon (longs 54 ++ shorts 1) 0 = .error .truncated ∧
    recon (longs 54 ++ [⟨false, 5⟩, ⟨true, 40⟩]) 0 = .error .collision := ⟨rfl, rfl⟩

/-- V-DEC-3: the worked example of R179. -/
theorem test_payload_frame : decodePayload (payloadBits 0x0075BCD15#40 false false false false)
    = some 0x0075BCD15#40 := by decide

/-- V-DEC-6: group 0 is the most significant nibble; the bits are written out. -/
theorem test_payload_order : decodePayload (List.replicate 9 true ++ [true, false, false, false, true]
    ++ List.replicate 40 false ++ [false, false, false, true, true] ++ List.replicate 5 false)
    = some 0x8000000001#40 := by decide

/-- V-DEC-7a, V-DEC-8, V-DEC-9. -/
theorem test_payload_checks :
    decodePayload (flipAt (9 + 4) (payloadBits 0x0075BCD15#40 false false false false)) = none ∧
    decodePayload (flipAt (9 + 54) (payloadBits 0x0075BCD15#40 false false false false)) = none ∧
    decodePayload (payloadBits 0x0075BCD15#40 true true true true) = some 0x0075BCD15#40 := by decide

/-- V-DEC-10: a two-bit flip inside one group is not detected. -/
theorem test_payload_two_flips :
    decodePayload (flipAt (9 + 45) (flipAt (9 + 49) (payloadBits 0x0075BCD15#40 false false false false)))
      = some 0x0075BCD1D#40 := by decide

/-- V-SCAN-2. -/
theorem test_scan : scanCapture [0xA5#8, 0x0F#8] = [] ∧
    scanCounters (captureRuns [0xA5#8, 0x0F#8]) = ⟨0, 8, 0, 0, 0⟩ := by decide

/-- The runs of a frame for `v` as program P1 builds them: a first run (0,7), the preamble, the data runs, one more run. -/
def frameRuns (v : Payload) : List Run :=
  ⟨false, 7⟩ :: ⟨true, 40⟩ :: (shortPairs ++
    (bodyClasses true ((payloadBits v false false false false).drop 9)).map fun l => ⟨false, if l then 40 else 5⟩)

/-- The attempts of V-SCAN-4 at indices 0 and 1. -/
theorem test_attempt_decodes : attempt (frameRuns 0x0075BCD15#40) 0 = .noMatch ∧
    attempt (frameRuns 0x0075BCD15#40) 1 = .decoded 0x0075BCD15#40 ∧
    (frameRuns 0x0075BCD15#40).length = 107 := by decide +kernel

/-- Each failure in its own counter, by hand from R190 and R191: nothing after the preamble (TRUNCATED), a hold before a
long run (COLLISION), and 55 ones, whose group 0 is odd (CHECKSUM, V-DEC-12). -/
theorem test_counters :
    scanCounters (⟨true, 40⟩ :: shortPairs) = ⟨0, 16, 0, 1, 0⟩ ∧
    scanCounters (⟨true, 40⟩ :: (shortPairs ++ [⟨false, 5⟩, ⟨false, 40⟩])) = ⟨0, 18, 1, 0, 0⟩ ∧
    scanCounters (⟨true, 40⟩ :: (shortPairs ++ shorts 110)) = ⟨0, 126, 0, 0, 1⟩ := by decide +kernel

/-! ### One step per operation -/

/-- How a program comes to run: a word on the bus right after reset is run by the very next step. -/
theorem test_fetch_pushb : step (State.reset.withFetchWord 40 0x12000000A5)
    = .next { State.reset with bc := 1, capbuf := [(0, 0xA5#8)] } := by rfl

/-- V-HOST-1. -/
theorem test_rdStatus_reset : (after (step (State.reset.withFetchWord 40 0x0100000000))).returned = [0#32] := by decide

/-- V-HOST-2, the example of R211. -/
theorem test_rsvdCmd8 : (after (step (State.reset.withFetchWord 40 0x100000000F))).statusWord = 0x10#32 := by decide
theorem test_rsvdCmd3 : (after (exec .rsvdCmd3 busy)).statusWord = 0x11#32 := by decide
theorem test_rsvdCmd4 : (after (exec (.rsvdCmd4 7#4) State.reset)).statusWord = 0x10#32 := by decide

/-- V-HOST-3: D = 12H is START. -/
theorem test_start : (after (step (State.reset.withFetchWord 40 0x1000000012))).statusWord = 0x01#32 := by decide

/-- V-HOST-6: START, CLEAR and PUSHB while BUSY set ACC_ERR. -/
theorem test_start_busy : (after (exec .start busy)).statusWord = 0x11#32 := by decide
theorem test_clear_busy : (after (exec .clear busy)).statusWord = 0x11#32 := by decide
theorem test_pushb_busy : (after (exec (.pushb 1#8) busy)).statusWord = 0x11#32 ∧ (after (exec (.pushb 1#8) busy)).bc = 0 := by
  decide

/-- V-HOST-8: CLEAR after a completed scan. -/
theorem test_clear : (after (exec .clear twoResults)).statusWord = 0#32 ∧ (after (exec .clear twoResults)).rc = 0 := by decide

theorem test_nop : after (exec .nop busy) = busy := by decide

/-- V-HOST-4 at CAP_BYTES = 2: the third byte is dropped. -/
theorem test_pushByte_capacity :
    (((State.reset.pushByte small 0xA5#8).pushByte small 0x0F#8).pushByte small 0x33#8)
      = { State.reset with bc := 2, capbuf := [(0, 0xA5#8), (1, 0x0F#8)], capOvf := true } := by decide

/-- V-HOST-7 at CAP_BYTES = 2: completion of that capture with CAP_OVF and ACC_ERR set. -/
theorem test_complete :
    (State.complete small { busy with bc := 2, capbuf := [(0, 0xA5#8), (1, 0x0F#8)], capOvf := true, accErr := true }).statusWord
      = 0x16#32 ∧
    (State.complete small { busy with bc := 2, capbuf := [(0, 0xA5#8), (1, 0x0F#8)] }).rc = 8 := by decide

/-- P6, both interleavings of the edge after START: completion now, or a scan one cycle older. -/
theorem test_scanEdge : (busy.scanEdge small true).statusWord = 0x02#32 ∧ (busy.scanEdge small false).statusWord = 0x01#32 := by
  decide

/-- R291: the edge at LAT_MAX completes whatever the environment says. -/
theorem test_scanEdge_bound : (State.scanEdge small false { busy with elapsed := 99 }).done = true := by decide

/-- V-HOST-9. -/
theorem test_wrsel : (after (exec (.wrsel 0xFFFFFFFF#32) busy)).sel = 0xFFFFFFFF#32 := by decide

/-- V-HOST-10. -/
theorem test_wrIgn1 : after (step (State.reset.withFetchWord 40 0x11FFFFFFFF)) = State.reset := by decide
theorem test_wrIgn3 : after (exec .wrIgn3 twoResults) = twoResults := by decide
theorem test_wrIgn4 : after (exec (.wrIgn4 4#4) twoResults) = twoResults := by decide
theorem test_wrIgn7 : after (exec .wrIgn7 twoResults) = twoResults := by decide
theorem test_wrIgn8 : after (exec (.wrIgn8 15#4) twoResults) = twoResults := by decide

/-- Reads, on the end state of program P2 with SEL = 1. -/
theorem test_rdStatus : (after (exec .rdStatus twoResults)).rdata = 0x02#32 := by decide
theorem test_rdByteCount : (after (exec .rdByteCount { twoResults with bc := 357 })).rdata = 357#32 := by decide
theorem test_rdRunCount : (after (exec .rdRunCount twoResults)).rdata = 205#32 := by decide
theorem test_rdResultCount : (after (exec .rdResultCount twoResults)).rdata = 2#32 := by decide
theorem test_rdResultSel : (after (exec .rdResultSel twoResults)).rdata = 1#32 := by decide
theorem test_rdResultLo : (after (exec .rdResultLo twoResults)).rdata = 0xDCBA9876#32 := by decide
theorem test_rdResultHi : (after (exec .rdResultHi twoResults)).rdata = 0x000000FE#32 := by decide
theorem test_rdResultIdx : (after (exec .rdResultIdx twoResults)).rdata = 103#32 := by decide
theorem test_rdResultLo_out : (after (exec .rdResultLo { twoResults with sel := 2#32 })).rdata = 0#32 := by decide
theorem test_rdCntNomatch : (after (exec .rdCntNomatch twoResults)).rdata = 203#32 := by decide
theorem test_rdCntCollision : (after (exec .rdCntCollision { twoResults with cnt := ⟨0, 0, 7, 0, 0⟩ })).rdata = 7#32 := by decide
theorem test_rdCntTrunc : (after (exec .rdCntTrunc { twoResults with cnt := ⟨0, 0, 0, 7, 0⟩ })).rdata = 7#32 := by decide
theorem test_rdCntChecksum : (after (exec .rdCntChecksum { twoResults with cnt := ⟨0, 0, 0, 0, 7⟩ })).rdata = 7#32 := by decide
theorem test_rdCntDecoded : (after (exec .rdCntDecoded twoResults)).rdata = 2#32 := by decide
theorem test_rdZero0 : (after (exec .rdZero0 { twoResults with rdata := 5#32 })).returned = [0#32] := by decide
theorem test_rdZero2 : (after (exec .rdZero2 { twoResults with rdata := 5#32 })).rdata = 0#32 := by decide
theorem test_rdZero15 : (after (exec .rdZero15 { twoResults with rdata := 5#32 })).rdata = 0#32 := by decide

/-- A read while BUSY completes and uses up one free value; its value is open, so none is expected. -/
theorem test_busy_read : (after (exec .rdRunCount busy)).draws = 1 ∧ (after (exec .rdRunCount busy)).returned.length = 1 := by
  decide

/-- R281: a read in a reset cycle returns 0, and the scan is abandoned. -/
theorem test_reset_cycle : (after (step { busy with pending := [resetWithRead], sel := 3#32 }))
    = { State.reset with returned := [0#32] } := by decide

/-- R271: the reset state with no host idles. -/
theorem test_reset_idles : step State.reset = .next State.reset := by rfl

/-! ### The host's side -/

/-- S1, the source's example, and the form of 0 (R232). -/
theorem test_text : payloadText 0x0075BCD15#40 = "123456789 0x75bcd15".toList ∧ payloadText 0#40 = "0 0x0".toList := by
  decide

/-- R90: the words of RDRES 1. -/
theorem test_rdres : (Pseudo.rdres 1#32).words = [0x1600000001#37, 0x0700000000#37, 0x0800000000#37, 0x0900000000#37] := by
  decide

/-! ### Witnesses: for every statement with hypotheses, a state and operands that meet them, at the ends of each range -/

theorem test_witness_DecodeOfEncodeIsTheOperation :
    (Instr.rsvdCmd4 4#4).wf = true ∧ (Instr.rsvdCmd4 7#4).wf = true ∧ (Instr.rsvdCmd8 8#4).wf = true ∧
    (Instr.rsvdCmd8 15#4).wf = true ∧ (Instr.wrIgn4 4#4).wf = true ∧ (Instr.wrIgn4 5#4).wf = true ∧
    (Instr.wrIgn8 8#4).wf = true ∧ (Instr.wrIgn8 15#4).wf = true := by decide

theorem test_witness_IgnoredBitsChangeNothing : 0xFFFFFFF2#32 &&& 0xf#32 = 0x00000002#32 &&& 0xf#32 := by decide

theorem test_witness_StepRunsTheTransactionOnTheBus :
    (State.reset.present 0x1000000002#37).pending = Cycle.ofHop 0x1000000002#37 false :: [] ∧
    (Cycle.ofHop 0x1000000002#37 false).rst = false ∧ (Cycle.ofHop 0x1000000002#37 false).busSel = true := by decide

theorem test_witness_PresentedOperationRunsInTheNextStep : (Instr.pushb 0xA5#8).wf = true := by decide

theorem test_witness_ResetCycleResetsAndIgnoresTheTransaction :
    ({ busy with pending := [resetWithRead] } : State).pending = resetWithRead :: [] ∧ resetWithRead.rst = true := by decide

theorem test_witness_IdleBlockDoesNothing :
    State.reset.busy = false ∧ State.reset.currentCycle.rst = false ∧ State.reset.currentCycle.busSel = false := ⟨rfl, rfl, rfl⟩

theorem test_witness_CompletionComesAfterTheTransaction :
    ({ busy with pending := [finishing 0x1600000005#37] } : State).pending = finishing 0x1600000005#37 :: [] ∧
    (finishing 0x1600000005#37).rst = false ∧ (finishing 0x1600000005#37).busSel = true ∧ busy.busy = true ∧
    (finishing 0x1600000005#37).finish = true := by decide

theorem test_witness_AcceptedBusyWritesCommuteWithCompletion :
    busy.busy = true ∧ Instr.wrIgn1.isIgnoredWrite = true ∧ (Instr.rsvdCmd8 15#4).isReserved = true := by decide

theorem test_witness_ScanCompletesWithinLatMax :
    busy.busy = true ∧ busy.elapsed < Config.params.latMax busy.bc ∧ ∀ c ∈ busy.pending, c.rst = false :=
  ⟨rfl, Config.one_le_latMax 0, by simp [busy, State.reset]⟩

theorem test_witness_AcceptedStartLeavesTheBlockBusy : twoResults.busy = false := rfl

theorem test_witness_NopAndIgnoredWritesChangeNothing :
    (1#4 ≠ 0#4 ∧ 1#4 ≠ 2#4 ∧ 1#4 ≠ 6#4) ∧ (7#4 ≠ 0#4 ∧ 7#4 ≠ 2#4 ∧ 7#4 ≠ 6#4) ∧ 15#4 ≠ 0#4 ∧ 15#4 ≠ 2#4 ∧ 15#4 ≠ 6#4 := by
  decide

theorem test_witness_ReservedCommandsSetAccErrOnly : 3 ≤ (3#4).toNat ∧ 3 ≤ (15#4).toNat := by decide

theorem test_witness_ClearEmptiesAnIdleBlock : busy.busy = true ∧ twoResults.busy = false := by decide

theorem test_witness_StartBeginsAScan :
    busy.busy = true ∧ twoResults.busy = false ∧ State.reset.busy = false ∧ State.reset.bc = 0 := by decide

theorem test_witness_PushbAppendsOrDropsItsByte :
    busyFull.busy = true ∧ (full.busy = false ∧ full.bc = Config.params.capBytes) ∧
    State.reset.busy = false ∧ State.reset.bc ≠ Config.params.capBytes :=
  ⟨rfl, ⟨rfl, rfl⟩, rfl, by have := Config.one_le_capBytes; simp only [State.reset]; omega⟩

/-- The last byte there is room for. -/
theorem test_witness_PushbExtendsTheCapture :
    ({ State.reset with bc := Config.params.capBytes - 1 } : State).busy = false ∧
    ({ State.reset with bc := Config.params.capBytes - 1 } : State).bc ≠ Config.params.capBytes :=
  ⟨rfl, by have := Config.one_le_capBytes; show Config.params.capBytes - 1 ≠ _; omega⟩

theorem test_witness_WrselStoresEveryWord : twoResults.resn ≤ (2#32).toNat := by decide

theorem test_witness_IdleCountReadsReturnTheCounts : twoResults.busy = false := rfl

theorem test_witness_IdleWindowReadsShowTheSelectedEntry :
    twoResults.busy = false ∧ (twoResults.sel.toNat < twoResults.resn ∧
      twoResults.resmem[twoResults.sel.toNat]? = some ⟨0xFEDCBA9876#40, 103⟩) ∧
    State.reset.resn ≤ State.reset.sel.toNat := by decide

theorem test_witness_BusyResultReadsReturnSomeWord : busy.busy = true ∧ Instr.rdResultHi ∈ resultReads := by decide

/-- The windows' words at the ends of the range: all bits of the payload set, and no entry selected. -/
theorem test_witness_ResultHighBitsReadZero :
    twoResults.busy = false ∧ ({ twoResults with resmem := [⟨0#40, 0⟩, ⟨0xFFFFFFFFFF#40, 1⟩] } : State).resultHiWord = 0xFF#32 ∧
    State.reset.resultHiWord = 0#32 := by decide

theorem test_witness_ReadsHaveNoSideEffect :
    Instr.rdRunCount ∈ readInstrs ∧ twoResults.busy = false ∧ Instr.rdStatus ∈ readInstrs ∧ Instr.rdStatus ∉ resultReads := by
  decide

theorem test_witness_WritesElsewhereChangeNothing :
    hopW 0x1F00000000#37 = true ∧ hopA 0x1F00000000#37 ≠ 0#4 ∧ hopA 0x1F00000000#37 ≠ 2#4 ∧ hopA 0x1F00000000#37 ≠ 6#4 := by
  decide

theorem test_witness_EachRegisterHasItsWriters :
    exec (.pushb 1#8) State.reset = .next (State.reset.pushByte Config.params 1#8) ∧
    (State.reset.pushByte Config.params 1#8).bc ≠ State.reset.bc ∧
    (State.reset.pushByte Config.params 1#8).capbuf.read 0 ≠ State.reset.capbuf.read 0 ∧
    (exec (.wrsel 1#32) State.reset = .next (State.reset.select 1#32) ∧ (State.reset.select 1#32).sel ≠ State.reset.sel) ∧
    (exec .clear twoResults = .next twoResults.clear ∧ twoResults.clear.rc ≠ twoResults.rc ∧
      twoResults.clear.done ≠ twoResults.done) ∧
    (exec .start State.reset = .next State.reset.start ∧ State.reset.start.busy ≠ State.reset.busy) ∧
    exec .rdStatus twoResults = .next (twoResults.answer 2#32) ∧ (twoResults.answer 2#32).rdata ≠ twoResults.rdata :=
  ⟨rfl, by decide, by decide, ⟨rfl, by decide⟩, ⟨rfl, by decide, by decide⟩, ⟨rfl, by decide⟩, rfl, by decide⟩

theorem test_witness_AccErrIsSetByExactlyTheRejectedWrites :
    (exec .start busy = .next busy.rejectWrite ∧ busy.accErr = false ∧ busy.busy = true ∧ Instr.start.isBusyRejected = true) ∧
    (exec .rsvdCmd3 State.reset = .next State.reset.rejectWrite ∧ Instr.rsvdCmd3.isReserved = true) ∧
    exec .clear State.reset.rejectWrite = .next State.reset.rejectWrite.clear ∧ State.reset.rejectWrite.accErr = true :=
  ⟨⟨rfl, by decide, by decide, by decide⟩, ⟨rfl, by decide⟩, rfl, by decide⟩

theorem test_witness_CapOvfIsSetByExactlyTheDroppedBytes :
    (exec (.pushb 1#8) full = .next (full.pushByte Config.params 1#8) ∧ full.capOvf = false ∧
      full.bc = Config.params.capBytes) ∧
    exec .clear full.dropByte = .next full.dropByte.clear ∧ full.dropByte.capOvf = true :=
  ⟨⟨rfl, rfl, rfl⟩, rfl, rfl⟩

theorem test_witness_ResOvfTellsOfDroppedResults : twoResults.busy = false := rfl

theorem test_witness_BusyScanKeepsItsCapture : busyOneByte.busy = true := rfl

theorem test_witness_ResultsHoldUntilStartOrClear :
    twoResults.done = true ∧ Instr.pushb 1#8 ≠ .start ∧ Instr.pushb 1#8 ≠ .clear ∧
    exec (.pushb 1#8) twoResults = .next (twoResults.pushByte Config.params 1#8) :=
  ⟨rfl, by decide, by decide, rfl⟩

/-- DONE rises at a completion, falls at START, and falls at reset. -/
theorem test_witness_DoneLineRisesAndFallsAsStated :
    (step { busy with pending := [finishing 0x1000000000#37] } = .next (busy.complete Config.params) ∧
      busy.doneLine = false ∧ (busy.complete Config.params).doneLine = true) ∧
    (step (twoResults.present 0x1000000002#37) = .next twoResults.beginScan ∧ twoResults.doneLine = true ∧
      twoResults.beginScan.doneLine = false) ∧
    step { twoResults with pending := [Cycle.resetCycle] } = .next State.reset ∧ State.reset.doneLine = false :=
  ⟨⟨rfl, rfl, rfl⟩, ⟨rfl, rfl, rfl⟩, rfl, rfl⟩

/-- The invariant holds of an idle block after a scan, and of a scan in progress. -/
theorem test_witness_doneOneByte_Inv : doneOneByte.Inv := by
  constructor
  case scanned =>
    have h : scanCapture (doneOneByte.capture.take 1) = [] := by decide
    exact fun _ => ⟨1, by decide, by decide, by decide, by rw [h]; exact (Nat.zero_min _).symm,
      by rw [h]; exact List.take_nil.symm, by decide, by rw [h]; rfl⟩
  case bc => exact Config.one_le_capBytes
  all_goals simp [doneOneByte, State.reset, Counters.total, Counters.zero]

theorem test_witness_busyOneByte_Inv : busyOneByte.Inv := by
  constructor
  case bc => exact Config.one_le_capBytes
  case inTime => exact fun _ => Config.one_le_latMax 1
  all_goals simp [busyOneByte, State.reset, Counters.total, Counters.zero]

theorem test_witness_EveryStepKeepsTheInvariant :
    doneOneByte.Inv ∧ step (doneOneByte.present 0x1000000002#37) = .next doneOneByte.beginScan :=
  ⟨test_witness_doneOneByte_Inv, rfl⟩

theorem test_witness_InvariantGivesTheStatedFacts : doneOneByte.Inv ∧ doneOneByte.done = true :=
  ⟨test_witness_doneOneByte_Inv, rfl⟩

theorem test_witness_EveryStepKeepsCapbufCanonical :
    Memory.wf [(0, 0xA5#8), (1, 0x0F#8)] = true ∧
    step ({ State.reset with capbuf := [(0, 0xA5#8), (1, 0x0F#8)] } : State)
      = .next { State.reset with capbuf := [(0, 0xA5#8), (1, 0x0F#8)] } := ⟨rfl, rfl⟩

theorem test_witness_RegisterWordsDoNotWrap : busyOneByte.Inv := test_witness_busyOneByte_Inv

theorem test_witness_SamplesAreTheBytesMsbFirst : 0 < 8 * [0x80#8].length ∧ 7 < 8 * [0x80#8].length := by decide

theorem test_witness_RunsAreTheTransitions :
    (transitions [false, false, false, true, true, false])[0]? = some 2 ∧
    (transitions [false, false, false, true, true, false])[1]? = some 4 := by decide

theorem test_witness_RunLevelsAlternate : (rle [true, false])[0]? = some ⟨false, 0⟩ ∧ [true, false][0]? = some true := by decide

/-- Both bounds at their ends: a first duration 0, and a last transition at N − 2. -/
theorem test_witness_RunsAndDurationsAreBounded :
    (rle [true, false])[0]? = some ⟨false, 0⟩ ∧ (rle [false, true, false])[1]? = some ⟨false, 1⟩ ∧
    (transitions [false, true, false]).getLast? = some 1 ∧ [0x55#8, 0x55#8].length ≤ small.capBytes := by decide

theorem test_witness_OverlappingMatchesShareADurationOfThirty :
    levelsAlternate (⟨true, 30⟩ :: ⟨false, 5⟩ :: ⟨true, 30⟩ :: shortPairs) = true ∧
    (matchPreamble (⟨true, 30⟩ :: ⟨false, 5⟩ :: ⟨true, 30⟩ :: shortPairs) 0).isSome = true ∧
    (matchPreamble (⟨true, 30⟩ :: ⟨false, 5⟩ :: ⟨true, 30⟩ :: shortPairs) 2).isSome = true := by decide

theorem test_witness_ReconReadsDurationsOnly :
    (longs 55).map Run.dur = (List.replicate 55 (⟨true, 40⟩ : Run)).map Run.dur := by decide

theorem test_witness_PayloadIsTheTenNibbles : (payloadBits 0x0075BCD15#40 true false true false).length = 64 := by decide

theorem test_witness_SingleBitFlipsAreDetected : (0 < 50 ∨ 0 = 54) ∧ (49 < 50 ∨ 49 = 54) ∧ (54 < 50 ∨ 54 = 54) := by decide

theorem test_witness_DecodeReadsGroupsAndFramingOnly :
    (payloadBits 1#40 true true true true).length = 64 ∧ (payloadBits 1#40 false false false false).length = 64 ∧
    ∀ k < 55, k < 50 ∨ k = 54 →
      (payloadBits 1#40 true true true true)[9 + k]? = (payloadBits 1#40 false false false false)[9 + k]? := by decide

theorem test_witness_CompletionDependsOnTheCaptureAlone :
    doneOneByte.capture = busyOneByte.capture := rfl

end Sys2Proof.Tests
end

section
/-! PROOF. Every count and run index is below 2^31 under the invariant, so no register word wraps (00_scope.md R9). -/

namespace Sys2Proof.Machine

/-- A register shows a count below 2^32 as it is. -/
theorem countWord_toNat {n : Nat} (h : n < 2 ^ 32) : (countWord n).toNat = n := by
  simpa [countWord] using h

/-- Each outcome counter is at most the total. -/
theorem Counters.le_total {c : Counters} {n : Nat}
    (h : n ∈ [c.noMatch, c.collision, c.truncated, c.checksum, c.decoded]) : n ≤ c.total := by
  simp only [List.mem_cons, List.not_mem_nil, or_false] at h
  unfold Counters.total
  omega

/-- BC is below 2^32, because it fits in the largest CAPBUF. -/
theorem State.Inv.bc_lt {s : State} (h : s.Inv) : s.bc < 2 ^ 32 := by
  have hfit := h.bc
  have hcap := Config.capBytes_le
  omega

/-- RC is below 2^31, because it fits in the run memory of the largest CAPBUF. -/
theorem State.Inv.rc_lt {s : State} (h : s.Inv) : s.rc < 2 ^ 31 := by
  have hruns := h.capRuns
  have hcap := Config.capBytes_le
  omega

/-- RESN is at most RC, because every result is counted by CNT_DECODED. -/
theorem State.Inv.resn_le_rc {s : State} (h : s.Inv) : s.resn ≤ s.rc := by
  have hdecoded : s.cnt.decoded ≤ s.cnt.total := Counters.le_total (by simp)
  calc s.resn ≤ s.cnt.decoded := h.stored ▸ Nat.min_le_left _ _
    _ ≤ s.rc := h.counters ▸ hdecoded

/-- What is at most RC is shown by its register word as it is. -/
theorem State.Inv.countWord_toNat_of_le_rc {s : State} (h : s.Inv) {n : Nat} (hn : n ≤ s.rc) :
    (countWord n).toNat = n :=
  countWord_toNat (by have := h.rc_lt; omega)

end Sys2Proof.Machine

namespace Sys2Proof

open Machine

/-- Settles O41: BYTE_COUNT is bounded by CAP_BYTES, and every other count and index by RC. -/
theorem registerWordsDoNotWrap : Obligations.RegisterWordsDoNotWrap := by
  intro s hinv
  refine ⟨countWord_toNat hinv.bc_lt, hinv.countWord_toNat_of_le_rc le_rfl,
    hinv.countWord_toNat_of_le_rc hinv.resn_le_rc, fun n hn => ?_, fun r hr => ?_⟩
  · exact hinv.countWord_toNat_of_le_rc (hinv.counters ▸ Counters.le_total hn)
  · exact hinv.countWord_toNat_of_le_rc (hinv.indices r hr).le

end Sys2Proof
end

section
/-! PROOF. The outcome of an attempt from its stages, and the counters and the lengths a scan gives
(45_scan_orchestrator.md R190 to R194, 41_run_length.md R117). -/

namespace Sys2Proof.Machine

/-! ### One attempt -/

/-- A match that starts at `st` ends 17 runs later (42_preamble_matcher.md R134). -/
theorem matchPreamble_eq_some {runs : List Run} {st p : Nat} (h : matchPreamble runs st = some p) : p = st + 17 := by
  unfold matchPreamble at h
  split at h
  · exact (Option.some.inj h).symm
  · cases h

/-- The first stage that fails decides the outcome of an attempt, and an attempt no stage fails decodes (R191). -/
theorem attempt_cases (runs : List Run) (i : Nat) :
    (matchPreamble runs i = none ∧ attempt runs i = .noMatch) ∨
    ((matchPreamble runs i).isSome = true ∧
      ((∃ e, recon runs (i + 17) = .error e ∧ attempt runs i = e.outcome) ∨
       (∃ lb, recon runs (i + 17) = .ok lb ∧ decodePayload lb = none ∧ attempt runs i = .checksum) ∨
       ∃ lb v, recon runs (i + 17) = .ok lb ∧ decodePayload lb = some v ∧ attempt runs i = .decoded v)) := by
  cases hm : matchPreamble runs i with
  | none => exact .inl ⟨rfl, by simp [attempt, hm]⟩
  | some p =>
    obtain rfl := matchPreamble_eq_some hm
    refine .inr ⟨rfl, ?_⟩
    cases hr : recon runs (i + 17) with
    | error e => exact .inl ⟨e, rfl, by simp [attempt, hm, hr]⟩
    | ok lb =>
      cases hd : decodePayload lb with
      | none => exact .inr (.inl ⟨lb, rfl, hd, by simp [attempt, hm, hr, hd]⟩)
      | some v => exact .inr (.inr ⟨lb, v, rfl, hd, by simp [attempt, hm, hr, hd]⟩)

/-- Each outcome of an attempt, as an equivalence with what the stages answer (R191, 60_exceptions.md R252 to R255). -/
theorem attempt_eq_iff (runs : List Run) (i : Nat) :
    (attempt runs i = .noMatch ↔ matchPreamble runs i = none) ∧
    (attempt runs i = .collision ↔ (matchPreamble runs i).isSome = true ∧ recon runs (i + 17) = .error .collision) ∧
    (attempt runs i = .truncated ↔ (matchPreamble runs i).isSome = true ∧ recon runs (i + 17) = .error .truncated) ∧
    (attempt runs i = .checksum ↔
      (matchPreamble runs i).isSome = true ∧ ∃ lb, recon runs (i + 17) = .ok lb ∧ decodePayload lb = none) ∧
    ∀ v, (attempt runs i = .decoded v ↔
      (matchPreamble runs i).isSome = true ∧ ∃ lb, recon runs (i + 17) = .ok lb ∧ decodePayload lb = some v) := by
  obtain ⟨hm, ha⟩ | ⟨hm, ⟨e, hr, ha⟩ | ⟨lb, hr, hd, ha⟩ | ⟨lb, v, hr, hd, ha⟩⟩ := attempt_cases runs i
  · simp [hm, ha]
  · have hne := Option.isSome_iff_ne_none.mp hm
    cases e <;> simp [hm, hne, hr, ha, ReconFailure.outcome]
  · have hne := Option.isSome_iff_ne_none.mp hm
    simp [hm, hne, hr, hd, ha]
  · have hne := Option.isSome_iff_ne_none.mp hm
    simp [hm, hne, hr, hd, ha]

/-! ### Counters and results -/

/-- A count by outcome code, as a count of run indices by a property of their attempts that has that code (R190). -/
theorem countCode_attempts (runs : List Run) {code : Nat} (p : AttemptOutcome → Bool)
    (hp : ∀ o : AttemptOutcome, (o.code == code) = p o) :
    countCode (attempts runs) code = (List.range runs.length).countP fun i => p (attempt runs i) := by
  simp only [countCode, attempts, List.countP_map, Function.comp_def, hp]

/-- Every outcome is counted by exactly one counter. -/
theorem countersOf_total (outcomes : List AttemptOutcome) : (countersOf outcomes).total = outcomes.length := by
  induction outcomes with
  | nil => rfl
  | cons o os ih =>
    have one_code : (if o.code == 0 then 1 else 0) + (if o.code == 1 then 1 else 0) + (if o.code == 2 then 1 else 0)
        + (if o.code == 3 then 1 else 0) + (if o.code == 4 then 1 else 0) = 1 := by cases o <;> rfl
    simp only [countersOf, Counters.total, countCode, List.countP_cons, List.length_cons] at ih ⊢
    omega

/-- The five counters of a scan sum to its number of runs (R191). -/
theorem scanCounters_total (runs : List Run) : (scanCounters runs).total = runs.length := by
  simp [scanCounters, countersOf_total, attempts]

/-- An attempt yields a result exactly when its outcome has the code of DECODED. -/
theorem AttemptOutcome.isSome_result? (o : AttemptOutcome) (i : Nat) : (o.result? i).isSome = (o.code == 0) := by
  cases o <;> rfl

/-- CNT_DECODED counts the results before truncation (R194). -/
theorem scanCounters_decoded (runs : List Run) : (scanCounters runs).decoded = (scanResults runs).length := by
  rw [scanResults, List.length_filterMap_eq_countP]
  simp only [AttemptOutcome.isSome_result?]
  exact countCode_attempts runs (fun o => o.code == 0) fun _ => rfl

/-- The run index of a result is that of a run (R192). -/
theorem index_lt_of_mem_scanResults {runs : List Run} {r : Result} (h : r ∈ scanResults runs) :
    r.index < runs.length := by
  obtain ⟨i, hi, hr⟩ := List.mem_filterMap.mp h
  have hindex : r.index = i := by
    cases ha : attempt runs i <;> simp only [ha, AttemptOutcome.result?, Option.some.injEq, reduceCtorEq] at hr
    case decoded v => rw [← hr]
  simpa [hindex] using hi

/-! ### The number of runs -/

/-- There are at most as many runs as neighbouring samples (41_run_length.md R117). -/
theorem rleFrom_length_le (prev i : Nat) (samples : List Bool) :
    (rleFrom prev i samples).length ≤ samples.length - 1 := by
  induction prev, i, samples using rleFrom.induct with
  | case1 prev i a rest ih => simpa [rleFrom] using Nat.le_succ_of_le ih
  | case2 prev i a b rest hab ih => simpa [rleFrom, hab] using ih
  | case3 => simp [rleFrom]

/-- Eight samples a byte (40_bit_expander.md R101). -/
theorem expand_length (bytes : List Byte) : (expand bytes).length = 8 * bytes.length := by
  induction bytes with
  | nil => rfl
  | cons b bs ih => simp [expand, byteSamples, ih]; omega

/-- The runs of a capture fit in the run memory of a buffer that holds the capture (41_run_length.md R117). -/
theorem captureRuns_length_le {bytes : List Byte} {cap : Nat} (h : bytes.length ≤ cap) :
    (captureRuns bytes).length ≤ 8 * cap - 1 := by
  have hruns : (captureRuns bytes).length ≤ (expand bytes).length - 1 := rleFrom_length_le 0 0 _
  rw [expand_length] at hruns
  omega

end Sys2Proof.Machine

namespace Sys2Proof

open Machine

/-- Settles O58: an outcome is that of the first stage that fails, each counter counts one outcome code, and an outcome has
exactly one code. -/
theorem countersSumToTheRunCount : Obligations.CountersSumToTheRunCount := by
  intro runs
  refine ⟨attempt_eq_iff runs, ?_, ?_, ?_, ?_, ?_, scanCounters_total runs, scanCounters_decoded runs⟩
  · exact countCode_attempts runs (fun o => decide (o = .noMatch)) fun o => by cases o <;> rfl
  · exact countCode_attempts runs (fun o => decide (o = .collision)) fun o => by cases o <;> rfl
  · exact countCode_attempts runs (fun o => decide (o = .truncated)) fun o => by cases o <;> rfl
  · exact countCode_attempts runs (fun o => decide (o = .checksum)) fun o => by cases o <;> rfl
  · exact countCode_attempts runs (fun o => o matches .decoded _) fun o => by cases o <;> rfl

end Sys2Proof
end

section
/-! PROOF. What a cycle runs (10_state.md R21, 60_exceptions.md R262, R271), and which operation writes which register
(10_state.md R24 to R31, 60_exceptions.md R265). -/

namespace Sys2Proof.Machine

/-! ### The word on the bus -/

/-- A host operation word is made of its three fields (30_encoding.md R80). -/
theorem hopOf_fields (h : Hop) : hopOf (hopW h) (hopA h) (hopD h) = h := by
  refine BitVec.eq_of_getLsbD_eq fun i hi => ?_
  simp only [hopOf, hopW, hopA, hopD, BitVec.getLsbD_append, BitVec.getLsbD_extractLsb']
  obtain hd | ha | rfl : i < 32 ∨ (32 ≤ i ∧ i < 36) ∨ i = 36 := by omega
  · simp [hd]
  · simp [show ¬i < 32 by omega, show i - 32 < 4 by omega, show 32 + (i - 32) = i by omega]
  · simp

/-- A cycle that carries a host operation word has the word on its pins. -/
@[simp] theorem Cycle.hop_ofHop (h : Hop) (finish : Bool) : (Cycle.ofHop h finish).hop = h := hopOf_fields h

/-- A write is decoded by its address (30_encoding.md R85). -/
theorem decode_write (a : Addr) (d : Word) : decode (hopOf true a d) = decodeWrite a d := by
  simp [decode, hopA_hopOf, hopD_hopOf]

/-- Decoding the canonical word of a well-formed operation gives the operation back (30_encoding.md R81, R83, R85). -/
theorem decode_encode {i : Instr} (h : i.wf = true) : decode (encode i) = i := by
  cases i
  case pushb byte =>
    have hbyte : byteField (byte.setWidth 32) = byte := by
      ext k hk
      simp [byteField, hk, show k < 32 by omega]
    simp [encode, decode_write, decodeWrite, hbyte]
  case wrsel sel => simp [encode, decode_write, decodeWrite]
  case rsvdCmd4 cmd => revert cmd; decide
  case rsvdCmd8 cmd => revert cmd; decide
  case wrIgn4 addr => revert addr; decide
  case wrIgn8 addr => revert addr; decide
  all_goals decide

/-! ### The start of a cycle -/

/-- With a cycle on the list, the start of it takes it off and uses up no free value. -/
theorem State.beginCycle_cons {s : State} {c : Cycle} {rest : List Cycle} (h : s.pending = c :: rest) :
    s.beginCycle = { s with pending := rest, rdata := 0#32 } := by
  simp [State.beginCycle, State.cycleDraws, h]

/-- With BUSY = 0, the start of a cycle uses up no free value. -/
theorem State.beginCycle_idle {s : State} (h : s.busy = false) :
    s.beginCycle = { s with pending := s.pending.tail, rdata := 0#32 } := by
  simp [State.beginCycle, State.cycleDraws, h]

/-- A cycle on the list that carries a transaction runs it and then the sequencer's edge. -/
theorem step_of_pending {s : State} {c : Cycle} {rest : List Cycle} (h : s.pending = c :: rest) (hrst : c.rst = false)
    (hsel : c.busSel = true) :
    step s = endCycle s.busy c.finish (exec (decode c.hop) { s with pending := rest, rdata := 0#32 }) := by
  obtain rfl := State.currentCycle_cons h
  obtain ⟨u, hu⟩ := exec_answers (decode s.currentCycle.hop) s.beginCycle
  rw [step_transaction hrst hsel hu, ← State.beginCycle_cons h, hu, endCycle]

/-! ### The bus side of the operations -/

/-- CLEAR leaves the bus side. -/
theorem State.clear_sameBus (s : State) : State.SameBus s s.clear := by
  obtain ⟨_, h⟩ | ⟨_, h⟩ := s.clear_cases <;> rw [h] <;> exact ⟨rfl, rfl, rfl⟩

/-- START leaves the bus side. -/
theorem State.start_sameBus (s : State) : State.SameBus s s.start := by
  obtain ⟨_, h⟩ | ⟨_, h⟩ := s.start_cases <;> rw [h] <;> exact ⟨rfl, rfl, rfl⟩

/-- PUSHB leaves the bus side. -/
theorem State.pushByte_sameBus (s : State) (P : Params) (b : Byte) : State.SameBus s (s.pushByte P b) := by
  obtain ⟨_, h⟩ | ⟨_, _, h⟩ | ⟨_, _, h⟩ := s.pushByte_cases P b <;> rw [h] <;> exact ⟨rfl, rfl, rfl⟩

/-- An operation that is no read leaves the bus side. -/
theorem exec_sameBus_of_not_read {i : Instr} {s t : State} (h : exec i s = .next t) (hi : i ∉ readInstrs) :
    State.SameBus s t := by
  cases i
  case clear => obtain rfl := Host.Outcome.next.inj h; exact s.clear_sameBus
  case start => obtain rfl := Host.Outcome.next.inj h; exact s.start_sameBus
  case pushb b => obtain rfl := Host.Outcome.next.inj h; exact s.pushByte_sameBus _ b
  case nop | rsvdCmd3 | rsvdCmd4 | rsvdCmd8 | wrsel | wrIgn1 | wrIgn3 | wrIgn4 | wrIgn7 | wrIgn8 =>
    obtain rfl := Host.Outcome.next.inj h
    exact ⟨rfl, rfl, rfl⟩
  all_goals exact absurd (by decide) hi

/-! ### The done line -/

/-- The done line is bit 1 of STATUS (10_state.md R20, R24). -/
theorem State.doneLine_eq_statusWord_bit (s : State) : s.doneLine = s.statusWord.getLsbD 1 := by
  simp only [State.doneLine, State.statusWord, BitVec.getLsbD_append]
  simp

/-- No operation sets DONE, and only a START or CLEAR accepted in an idle block clears it (10_state.md R24). -/
theorem exec_done {i : Instr} {s t : State} (h : exec i s = .next t) :
    t.done = s.done ∨ (t.done = false ∧ s.busy = false ∧ (i = .start ∨ i = .clear)) := by
  obtain rfl | rfl | rfl | ⟨b, _, _, _, rfl⟩ | ⟨hi, hidle, rfl⟩ | ⟨hi, hidle, rfl⟩ | ⟨k, _, rfl⟩ | ⟨w, n, rfl⟩ :=
    exec_cases h
  · exact .inl rfl
  · exact .inl rfl
  · exact .inl rfl
  · exact .inl rfl
  · exact .inr ⟨rfl, hidle, .inr hi⟩
  · exact .inr ⟨rfl, hidle, .inl hi⟩
  · exact .inl rfl
  · exact .inl rfl

/-- The edge of a cycle leaves DONE, or completes a scan that was in progress at the start of the cycle. -/
theorem State.sequencerEdge_done (s : State) (P : Params) (wasBusy finish : Bool) :
    (s.sequencerEdge P wasBusy finish).done = s.done ∨
    (wasBusy = true ∧ (s.sequencerEdge P wasBusy finish).done = true ∧
      (s.sequencerEdge P wasBusy finish).busy = false) := by
  cases wasBusy
  · exact .inl rfl
  · obtain h | ⟨_, _, h⟩ := s.scanEdge_cases P finish <;> rw [s.sequencerEdge_busy, h]
    · exact .inr ⟨rfl, rfl, rfl⟩
    · exact .inl rfl

/-- A cycle leaves DONE, or completes a scan, or clears DONE by reset or by an accepted START or CLEAR
(60_exceptions.md R265). -/
theorem step_done {s t : State} (h : step s = .next t) :
    t.done = s.done ∨
    (s.currentCycle.rst = false ∧ s.busy = true ∧ t.done = true ∧ t.busy = false) ∨
    (t.done = false ∧ (s.currentCycle.rst = true ∨ (s.busy = false ∧ s.currentCycle.busSel = true ∧
      (decode s.currentCycle.hop = .start ∨ decode s.currentCycle.hop = .clear)))) := by
  obtain ⟨hrst, rfl⟩ | ⟨hrst, hsel, u, hu, rfl⟩ | ⟨hrst, _, rfl⟩ := step_cases h
  · exact .inr (.inr ⟨rfl, .inl hrst⟩)
  · obtain hedge | ⟨hbusy, hdone, hidle⟩ := u.sequencerEdge_done Config.params s.busy s.currentCycle.finish
    · obtain hexec | ⟨hdone, hidle, hop⟩ := exec_done hu
      · exact .inl (hedge.trans hexec)
      · exact .inr (.inr ⟨hedge.trans hdone, .inr ⟨hidle, hsel, hop⟩⟩)
    · exact .inr (.inl ⟨hrst, hbusy, hdone, hidle⟩)
  · obtain hedge | ⟨hbusy, hdone, hidle⟩ := s.beginCycle.sequencerEdge_done Config.params s.busy s.currentCycle.finish
    · exact .inl hedge
    · exact .inr (.inl ⟨hrst, hbusy, hdone, hidle⟩)

/-! ### RESULT_HI -/

/-- V[39:32] zero-extended is below 256 (20_memory.md R64). -/
theorem payloadHigh_lt (v : Payload) : (payloadHigh v).toNat < 256 := by
  have hbyte := (v.extractLsb' 32 8).isLt
  rw [payloadHigh, BitVec.toNat_setWidth_of_le (by decide)]
  exact hbyte

/-- Bits 31:8 of RESULT_HI are 0, whether an entry is selected or not (10_state.md R31). -/
theorem State.resultHiWord_lt (s : State) : s.resultHiWord.toNat < 256 := by
  unfold State.resultHiWord State.window
  split
  · exact payloadHigh_lt _
  · decide

end Sys2Proof.Machine

namespace Sys2Proof

open Machine

/-- Settles O30: the writers are read off what an operation can leave, and the reads off what leaves the bus side. -/
theorem eachRegisterHasItsWriters : Obligations.EachRegisterHasItsWriters := by
  intro i s t h
  have hread : t.rdata ≠ s.rdata ∨ t.returned ≠ s.returned → i ∈ readInstrs := by
    intro hne
    by_contra hi
    obtain ⟨hrdata, hreturned, _⟩ := exec_sameBus_of_not_read h hi
    exact hne.elim (absurd hrdata) (absurd hreturned)
  obtain rfl | rfl | rfl | ⟨b, rfl, _, _, rfl⟩ | ⟨rfl, _, rfl⟩ | ⟨rfl, _, rfl⟩ | ⟨k, rfl, rfl⟩ | ⟨w, n, rfl⟩ :=
    exec_cases h <;> simp [State.SameResults, hread]

/-- Settles O36: the three ways a cycle leaves DONE. -/
theorem doneLineRisesAndFallsAsStated : Obligations.DoneLineRisesAndFallsAsStated := by
  intro s t h
  refine ⟨t.doneLine_eq_statusWord_bit, fun (hs : s.done = false) (ht : t.done = true) => ?_,
    fun (hs : s.done = true) (ht : t.done = false) => ?_⟩
  · obtain hsame | ⟨hrst, hbusy, _, hidle⟩ | ⟨hfall, _⟩ := step_done h
    · simp [hs, ht] at hsame
    · exact ⟨hbusy, hidle, hrst⟩
    · simp [ht] at hfall
  · obtain hsame | ⟨_, _, hrise, _⟩ | ⟨_, hcause⟩ := step_done h
    · simp [hs, ht] at hsame
    · simp [ht] at hrise
    · exact hcause

/-- Settles O5: a cycle on the list draws no free value before its transaction. -/
theorem stepRunsTheTransactionOnTheBus : Obligations.StepRunsTheTransactionOnTheBus := fun _ _ _ => step_of_pending

/-- Settles O6: the word put on the bus decodes to the operation. -/
theorem presentedOperationRunsInTheNextStep : Obligations.PresentedOperationRunsInTheNextStep := by
  intro i s hwf
  have hstep := step_of_pending (s.present_pending (encode i)) rfl rfl
  rwa [Cycle.hop_ofHop, decode_encode hwf] at hstep

/-- Settles O8: no transaction runs, and the sequencer's edge of an idle block does nothing. -/
theorem idleBlockDoesNothing : Obligations.IdleBlockDoesNothing := by
  intro s hidle hrst hsel
  have hstep := step_quiet hrst hsel
  rwa [hidle, State.sequencerEdge_idle, State.beginCycle_idle hidle] at hstep

/-- Settles O28: an idle read of RESULT_HI answers the word of the register. -/
theorem resultHighBitsReadZero : Obligations.ResultHighBitsReadZero := by
  intro s
  refine ⟨s.resultHiWord_lt, fun hidle => ⟨s.resultHiWord, ?_, s.resultHiWord_lt⟩⟩
  rw [exec_rdResultHi, State.answerResult_idle _ hidle, State.answer]

end Sys2Proof
end

section
/-! PROOF. What the parts of a cycle keep: the canonical form of CAPBUF (20_memory.md R61) and the invariant of the machine
(10_state.md R46, R47, 70_reset_and_hazards.md R291). -/

namespace Sys2Proof.Machine

/-! ### A step, part by part -/

/-- A property that the start of a cycle, every operation, the edge of a scan and a reset keep is kept by every step. -/
theorem step_keeps {p : State → Prop} (begins : ∀ s : State, p s → p s.beginCycle)
    (execs : ∀ (i : Instr) (s u : State), p s → exec i s = .next u → p u)
    (edges : ∀ (s : State) (finish : Bool), p s → p (s.scanEdge Config.params finish))
    (resets : ∀ (s : State) (c : Cycle), p (s.resetEdge c)) {s t : State} (hs : p s) (h : step s = .next t) : p t := by
  have edge : ∀ u, p u → p (u.sequencerEdge Config.params s.busy s.currentCycle.finish) := by
    intro u hu
    cases s.busy
    · exact hu
    · exact edges u _ hu
  obtain ⟨_, rfl⟩ | ⟨_, _, u, hu, rfl⟩ | ⟨_, _, rfl⟩ := step_cases h
  · exact resets _ _
  · exact edge u (execs _ _ u (begins s hs) hu)
  · exact edge _ (begins s hs)

/-! ### CAPBUF's canonical form -/

/-- The edge of a scan leaves CAPBUF. -/
@[simp] theorem State.scanEdge_capbuf (s : State) (P : Params) (finish : Bool) :
    (s.scanEdge P finish).capbuf = s.capbuf := by
  obtain h | ⟨_, _, h⟩ := s.scanEdge_cases P finish <;> simp [h]

/-- An operation leaves CAPBUF, writes one byte at BC, or empties it. -/
theorem exec_capbuf {i : Instr} {s t : State} (h : exec i s = .next t) :
    t.capbuf = s.capbuf ∨ (∃ b, t.capbuf = s.capbuf.write s.bc b) ∨ t.capbuf = [] := by
  obtain rfl | rfl | rfl | ⟨b, _, _, _, rfl⟩ | ⟨_, _, rfl⟩ | ⟨_, _, rfl⟩ | ⟨k, _, rfl⟩ | ⟨w, n, rfl⟩ := exec_cases h
  · exact .inl rfl
  · exact .inl rfl
  · exact .inl rfl
  · exact .inr (.inl ⟨b, rfl⟩)
  · exact .inr (.inr rfl)
  · exact .inl rfl
  · exact .inl rfl
  · exact .inl rfl

/-- Every operation keeps CAPBUF's canonical form. -/
theorem exec_keeps_capbuf_wf (i : Instr) (s t : State) (hs : s.capbuf.wf = true) (h : exec i s = .next t) :
    t.capbuf.wf = true := by
  obtain ht | ⟨b, ht⟩ | ht := exec_capbuf h
  · rwa [ht]
  · rw [ht]; exact Memory.wf_write _ _ _ hs
  · rw [ht]; exact Memory.wf_nil

/-! ### The invariant: what it does not speak of, and the states that list nothing -/

/-- The invariant says nothing of CAP_OVF, ACC_ERR, SEL, the bus side and the count of free values. -/
theorem State.Inv.frame {s : State} (h : s.Inv) (capOvf accErr : Bool) (sel rdata : Word) (pending : List Cycle)
    (returned : List Word) (draws : Nat) :
    State.Inv { s with
      capOvf := capOvf, accErr := accErr, sel := sel, rdata := rdata, pending := pending, returned := returned
      draws := draws } :=
  { h with }

/-- An accepted CLEAR leaves a state that meets the invariant, whatever it was before. -/
theorem State.Inv.clearAll {s : State} (h : s.busy = false) : s.clearAll.Inv := by
  constructor <;> simp [h, Counters.total, Counters.zero]

/-- The reset state meets the invariant. -/
theorem State.Inv.reset : State.reset.Inv := by
  constructor <;> simp [State.reset, Counters.total, Counters.zero]

/-- So does the state after a reset edge. -/
theorem State.Inv.resetEdge (s : State) (c : Cycle) : (s.resetEdge c).Inv := State.Inv.reset.frame ..

/-! ### The invariant: an appended byte -/

/-- An appended byte is the last byte of the capture (20_memory.md R61, R62). -/
theorem State.appendByte_capture (s : State) (b : Byte) : (s.appendByte b).capture = s.capture ++ [b] := by
  have earlier : ∀ k ∈ List.range s.bc, (s.appendByte b).captureByte k = s.captureByte k := by
    intro k hk
    have hne : k ≠ s.bc := (List.mem_range.mp hk).ne
    simp [State.captureByte, Memory.read_write_other _ _ hne]
  simp only [State.capture, State.appendByte_bc, List.range_succ, List.map_append, List.map_congr_left earlier]
  simp [State.captureByte]

/-- With the addresses below BC listed, an appended byte lists the next one. -/
theorem State.Inv.appendByte_addresses {s : State} (h : s.Inv) (b : Byte) :
    (s.appendByte b).capbuf.map Prod.fst = List.range (s.bc + 1) := by
  have below : ∀ e ∈ s.capbuf, e.1 < s.bc := fun e he =>
    List.mem_range.mp (h.capbuf ▸ List.mem_map_of_mem he)
  simp [Memory.write_append _ _ _ below, h.capbuf, List.range_succ]

/-- PUSHB into a buffer with room keeps the invariant: the scan of the bytes there were at the last START stays. -/
theorem State.Inv.appendByte {s : State} (h : s.Inv) (b : Byte) (hidle : s.busy = false)
    (hroom : s.bc ≠ Config.params.capBytes) : (s.appendByte b).Inv :=
  { h with
    capbuf := h.appendByte_addresses b
    bc := Nat.lt_of_le_of_ne h.bc hroom
    inTime := by simp [hidle]
    scanned := fun hdone => by
      obtain ⟨bc0, hle, hscan⟩ := h.scanned hdone
      refine ⟨bc0, Nat.le_succ_of_le hle, ?_⟩
      rw [s.appendByte_capture, List.take_append_of_le_length (by simpa using hle)]
      exact hscan }

/-! ### The invariant: the scan -/

/-- An accepted START keeps the invariant: a scan starts 0 cycles old, and LAT_MAX is at least 1. -/
theorem State.Inv.beginScan {s : State} (h : s.Inv) : s.beginScan.Inv :=
  { h with
    exclusive := by simp
    inTime := fun _ => Config.one_le_latMax _
    scanned := by simp
    fresh := by simp
    resOvf := fun _ => rfl }

/-- One more cycle of a scan short of LAT_MAX keeps the invariant. -/
theorem State.Inv.age {s : State} (h : s.Inv) (hyoung : s.elapsed + 1 < Config.params.latMax s.bc) : s.age.Inv :=
  { h with inTime := fun _ => hyoung }

/-- A completion leaves the capture, all BC bytes of it. -/
theorem State.take_capture_complete (s : State) (P : Params) : (s.complete P).capture.take s.bc = s.capture := by
  rw [State.capture_congr (s.complete_capbuf P) (s.complete_bc P)]
  exact List.take_of_length_le (by simp)

/-- A completion leaves the scan of the capture in the result registers (45_scan_orchestrator.md R194). -/
theorem State.complete_holdsScanOf (s : State) : (s.complete Config.params).HoldsScanOf s.capture :=
  ⟨rfl, rfl, rfl, rfl, rfl, rfl⟩

/-- A completion keeps the invariant: it needs of the state before only that the capture fits in CAPBUF. -/
theorem State.Inv.complete {s : State} (h : s.Inv) : (s.complete Config.params).Inv :=
  { h with
    rc := rfl
    capRuns := captureRuns_length_le (by simpa using h.bc)
    resn := by simp [Nat.min_comm]
    stored := by simp [scanCounters_decoded, scanCapture]
    counters := scanCounters_total _
    indices := fun _ hr => index_lt_of_mem_scanResults (List.mem_of_mem_take hr)
    exclusive := by simp
    inTime := by simp
    scanned := fun _ => ⟨s.bc, Nat.le_refl _, by rw [s.take_capture_complete]; exact s.complete_holdsScanOf⟩
    fresh := by simp
    resOvf := by simp }

/-- The edge of a scan keeps the invariant, whether the scan completes or grows older. -/
theorem State.Inv.scanEdge {s : State} (h : s.Inv) (finish : Bool) : (s.scanEdge Config.params finish).Inv := by
  obtain hedge | ⟨_, hyoung, hedge⟩ := s.scanEdge_cases Config.params finish <;> rw [hedge]
  · exact h.complete
  · exact h.age hyoung

/-- Every operation keeps the invariant. -/
theorem State.Inv.exec {s t : State} (hs : s.Inv) {i : Instr} (h : exec i s = .next t) : t.Inv := by
  obtain rfl | rfl | rfl | ⟨b, _, hidle, hroom, rfl⟩ | ⟨_, hidle, rfl⟩ | ⟨_, _, rfl⟩ | ⟨k, _, rfl⟩ | ⟨w, n, rfl⟩ :=
    exec_cases h
  · exact hs
  · exact hs.frame ..
  · exact hs.frame ..
  · exact hs.appendByte b hidle hroom
  · exact .clearAll hidle
  · exact hs.beginScan
  · exact hs.frame ..
  · exact hs.frame ..

/-- CNT_DECODED of a state that holds a scan counts the scan's results before truncation. -/
theorem State.HoldsScanOf.decoded_eq {s : State} {bytes : List Byte} (h : s.HoldsScanOf bytes) :
    s.cnt.decoded = (scanCapture bytes).length := by
  obtain ⟨_, _, _, _, hcnt, _⟩ := h
  rw [hcnt, scanCounters_decoded, scanCapture]

/-- RES_OVF of a state that holds a scan tells whether CNT_DECODED exceeds CAP_RESULTS. -/
theorem State.HoldsScanOf.resOvf_iff {s : State} {bytes : List Byte} (h : s.HoldsScanOf bytes) :
    s.resOvf = true ↔ Config.params.capResults < s.cnt.decoded := by
  rw [h.decoded_eq]
  obtain ⟨_, _, _, _, _, hovf⟩ := h
  rw [hovf, decide_eq_true_iff]

end Sys2Proof.Machine

namespace Sys2Proof

open Machine

/-- Settles O38: each part of a cycle keeps the invariant. -/
theorem everyStepKeepsTheInvariant : Obligations.EveryStepKeepsTheInvariant := fun _ _ =>
  step_keeps (fun _ h => h.frame ..) (fun _ _ _ h hexec => h.exec hexec) (fun _ finish h => h.scanEdge finish)
    State.Inv.resetEdge

/-- Settles O40: only PUSHB and CLEAR write CAPBUF, a write keeps its form, and an empty one has it. -/
theorem everyStepKeepsCapbufCanonical : Obligations.EveryStepKeepsCapbufCanonical := fun _ _ =>
  step_keeps (p := fun s => s.capbuf.wf = true) (fun _ h => h) exec_keeps_capbuf_wf
    (fun s finish h => by rwa [s.scanEdge_capbuf]) (fun _ _ => Memory.wf_nil)

/-- Settles O37: nothing is listed and every count is 0. -/
theorem resetStateMeetsTheInvariant : Obligations.ResetStateMeetsTheInvariant := State.Inv.reset

/-- Settles O39: BC0 and RES_OVF come from the scan that DONE = 1 says the registers hold. -/
theorem invariantGivesTheStatedFacts : Obligations.InvariantGivesTheStatedFacts := by
  intro s h
  refine ⟨h.bc, h.stored ▸ Nat.min_le_right _ _, h.exclusive, fun hdone => ?_⟩
  obtain ⟨bc0, hle, hscan⟩ := h.scanned hdone
  have hsum : s.cnt.noMatch + s.cnt.collision + s.cnt.truncated + s.cnt.checksum + s.cnt.decoded = s.rc := by
    rw [← h.counters, Counters.total]
    omega
  have hovf := hscan.resOvf_iff
  obtain ⟨hrc, _⟩ := hscan
  exact ⟨⟨bc0, hle, hrc⟩, hsum, h.stored, hovf⟩

end Sys2Proof
end

section
/-! PROOF. The register block as the host reads and writes it (20_memory.md R60 to R73): the windows, the reads, the
ignored writes, and what an operation leaves of a scan in progress and of a scan's results. -/

namespace Sys2Proof.Machine

/-! ### The windows onto RESMEM -/

/-- RESULT_LO shows V mod 2^32 (20_memory.md R64). -/
theorem payloadLow_toNat (v : Payload) : (payloadLow v).toNat = v.toNat % 2 ^ 32 := by
  simp [payloadLow]

/-- RESULT_HI shows V div 2^32, which fits in its low byte (20_memory.md R64). -/
theorem payloadHigh_toNat (v : Payload) : (payloadHigh v).toNat = v.toNat / 2 ^ 32 := by
  have hv := v.isLt
  rw [payloadHigh, BitVec.toNat_setWidth_of_le (by decide), BitVec.extractLsb'_toNat, Nat.shiftRight_eq_div_pow]
  omega

/-- With SEL below RESN a window shows the entry SEL selects (10_state.md R30 to R32). -/
theorem State.window_selected {s : State} {r : Result} (hsel : s.sel.toNat < s.resn)
    (hr : s.resmem[s.sel.toNat]? = some r) (f : Result → Word) : s.window f = f r := by
  simp [State.window, State.resultEntry, hsel, hr]

/-- With SEL not below RESN a window shows 0 (10_state.md R30 to R32). -/
theorem State.window_unselected {s : State} (hsel : s.resn ≤ s.sel.toNat) (f : Result → Word) : s.window f = 0#32 :=
  if_neg (Nat.not_lt.mpr hsel)

/-! ### Reads -/

/-- Every read of the opcode table reads one of the sixteen locations (30_encoding.md R85). -/
theorem exists_decodeRead_of_mem_readInstrs : ∀ i ∈ readInstrs, ∃ r ∈ RegName.all, decodeRead r.addr = i := by decide

/-- A read answers the word of its location; if that is a result register, only while BUSY = 0. -/
theorem exec_read (r : RegName) (s : State) :
    exec (decodeRead r.addr) s = .next (if decodeRead r.addr ∈ resultReads then s.answerResult (s.registerWord r)
      else s.answer (s.registerWord r)) := by
  cases r <;> rfl

/-- A read with a defined value answers the word of its location (20_memory.md R66). -/
theorem exec_read_defined (r : RegName) {s : State} (h : s.busy = false ∨ decodeRead r.addr ∉ resultReads) :
    exec (decodeRead r.addr) s = .next (s.answer (s.registerWord r)) := by
  rw [exec_read]
  split
  next hresult => rw [State.answerResult_idle _ (h.resolve_right (not_not_intro hresult))]
  next => rfl

/-- A read of a result register while BUSY = 1 answers the next free value (70_reset_and_hazards.md R286). -/
theorem exec_read_busy {r : RegName} {s : State} (hbusy : s.busy = true) (hresult : decodeRead r.addr ∈ resultReads) :
    exec (decodeRead r.addr) s = .next (s.draw.answer (Config.freeRead s.draws)) := by
  rw [exec_read, if_pos hresult, State.answerResult_busy _ hbusy]

/-- With BUSY = 0 a read of a window answers the window's word (20_memory.md R64). -/
theorem exec_windowReads_idle {s : State} (hidle : s.busy = false) :
    exec .rdResultLo s = .next (s.answer (s.window fun r => payloadLow r.payload)) ∧
    exec .rdResultHi s = .next (s.answer (s.window fun r => payloadHigh r.payload)) ∧
    exec .rdResultIdx s = .next (s.answer (s.window fun r => countWord r.index)) :=
  ⟨exec_read_defined .resultLo (.inl hidle), exec_read_defined .resultHi (.inl hidle),
    exec_read_defined .resultIdx (.inl hidle)⟩

/-- No location shows what a read changes: the data port, the record of read values, the count of free values. -/
theorem State.registerWord_frame (s : State) (r : RegName) (rdata : Word) (returned : List Word) (draws : Nat) :
    State.registerWord { s with rdata := rdata, returned := returned, draws := draws } r = s.registerWord r := by
  cases r <;> rfl

/-! ### Ignored writes -/

/-- A write elsewhere than CTRL, DATA_IN and RESULT_SEL is one of the ignored writes (30_encoding.md R85, R87). -/
theorem isIgnoredWrite_decodeWrite {a : Addr} (hctrl : a ≠ 0#4) (hdata : a ≠ 2#4) (hsel : a ≠ 6#4) (d : Word) :
    (decodeWrite a d).isIgnoredWrite = true := by
  simp only [decodeWrite, if_neg hctrl, if_neg hdata, if_neg hsel]
  split_ifs <;> rfl

/-- An ignored write leaves the state as it is (46_host_operations.md R217). -/
theorem exec_ignoredWrite {i : Instr} (h : i.isIgnoredWrite = true) (s : State) : exec i s = .next s := by
  cases i
  case wrIgn1 | wrIgn3 | wrIgn4 | wrIgn7 | wrIgn8 => rfl
  all_goals cases h

/-! ### Operations during a scan -/

/-- While BUSY = 1 an operation leaves BUSY, BC and CAPBUF: what would change them is rejected (20_memory.md R73). -/
theorem exec_busy_frame {i : Instr} {s t : State} (h : exec i s = .next t) (hbusy : s.busy = true) :
    t.busy = true ∧ t.bc = s.bc ∧ t.capbuf = s.capbuf := by
  obtain rfl | rfl | rfl | ⟨_, _, hidle, _⟩ | ⟨_, hidle, _⟩ | ⟨_, hidle, _⟩ | ⟨_, _, rfl⟩ | ⟨_, _, rfl⟩ := exec_cases h
  · exact ⟨hbusy, rfl, rfl⟩
  · exact ⟨hbusy, rfl, rfl⟩
  · exact ⟨hbusy, rfl, rfl⟩
  · simp [hbusy] at hidle
  · simp [hbusy] at hidle
  · simp [hbusy] at hidle
  · exact ⟨hbusy, rfl, rfl⟩
  · exact ⟨hbusy, rfl, rfl⟩

end Sys2Proof.Machine

namespace Sys2Proof

open Machine

/-- Settles O19: an idle block with room appends the byte. -/
theorem pushbExtendsTheCapture : Obligations.PushbExtendsTheCapture := by
  intro s b hidle hroom
  exact ⟨s.appendByte b, by rw [exec_pushb, State.pushByte_room b hidle hroom], s.appendByte_capture b⟩

/-- Settles O34: the capture is read from BC and CAPBUF alone. -/
theorem busyScanKeepsItsCapture : Obligations.BusyScanKeepsItsCapture := by
  intro i s hbusy
  obtain ⟨t, ht⟩ := exec_answers i s
  obtain ⟨hbusy', hbc, hcapbuf⟩ := exec_busy_frame ht hbusy
  exact ⟨t, ht, hbusy', ⟨hbc, fun a => by rw [hcapbuf]⟩, State.capture_congr hcapbuf hbc⟩

/-- Settles O35: START and CLEAR are the only writers of the results, DONE and RES_OVF. -/
theorem resultsHoldUntilStartOrClear : Obligations.ResultsHoldUntilStartOrClear := by
  intro i s t hdone hstart hclear h
  obtain ⟨_, _, _, results_writer, _, flags_writer, _⟩ := eachRegisterHasItsWriters i s t h
  have hresults : State.SameResults s t := by
    by_contra hne
    exact hclear (results_writer hne)
  have hflags : ¬(t.done ≠ s.done ∨ t.resOvf ≠ s.resOvf) := fun hne => (flags_writer hne).elim hstart hclear
  rw [not_or, not_not, not_not] at hflags
  obtain ⟨hdone', hovf⟩ := hflags
  exact ⟨hresults, hdone'.trans hdone, hovf⟩

/-- Settles O10: the operation leaves BUSY = 1, and the edge completes what it left. -/
theorem completionComesAfterTheTransaction : Obligations.CompletionComesAfterTheTransaction := by
  intro s c rest hpending hrst hsel hbusy hfinish
  obtain ⟨u, hu⟩ := exec_answers (decode c.hop) { s with pending := rest, rdata := 0#32 }
  obtain ⟨hbusy', _, _⟩ := exec_busy_frame hu hbusy
  refine ⟨u, hu, hbusy', ?_⟩
  rw [step_of_pending hpending hrst hsel, hu, endCycle, hbusy, State.sequencerEdge_busy,
    State.scanEdge_completes (.inl hfinish)]

/-- Settles O25: an idle window read answers the window's word, which is that of the selected entry or 0. -/
theorem idleWindowReadsShowTheSelectedEntry : Obligations.IdleWindowReadsShowTheSelectedEntry := by
  intro s hidle
  have reads := exec_windowReads_idle hidle
  refine ⟨fun r hsel hr => ?_, fun hsel => ?_⟩
  · simp only [State.window_selected hsel hr] at reads
    obtain ⟨hlo, hhi, hidx⟩ := reads
    exact ⟨_, _, _, hlo, hhi, hidx, payloadLow_toNat _, payloadHigh_toNat _, BitVec.toNat_ofNat _ _⟩
  · simp only [State.window_unselected hsel] at reads
    obtain ⟨hlo, hhi, hidx⟩ := reads
    simp only [List.forall_mem_cons, List.not_mem_nil, IsEmpty.forall_iff, implies_true, and_true]
    exact ⟨hlo, hhi, hidx⟩

/-- Settles O27: a defined read answers the word of its location, which no read changes; any other answers a free value. -/
theorem readsHaveNoSideEffect : Obligations.ReadsHaveNoSideEffect := by
  intro i hi s
  obtain ⟨r, _, rfl⟩ := exists_decodeRead_of_mem_readInstrs i hi
  by_cases hdefined : s.busy = false ∨ decodeRead r.addr ∉ resultReads
  · refine ⟨s.registerWord r, s.draws, exec_read_defined r hdefined, fun _ => ⟨_, exec_read_defined r hdefined, ?_⟩⟩
    rw [State.answer_rdata, State.registerWord_frame]
  · obtain ⟨hbusy, hresult⟩ : s.busy = true ∧ decodeRead r.addr ∈ resultReads := by simpa using hdefined
    exact ⟨_, _, exec_read_busy hbusy hresult, fun h => absurd h hdefined⟩

/-- Settles O29: such a word decodes to an ignored write. -/
theorem writesElsewhereChangeNothing : Obligations.WritesElsewhereChangeNothing := by
  intro h s hwrite hctrl hdata hsel
  have hdecode : decode h = decodeWrite (hopA h) (hopD h) := if_pos hwrite
  rw [hdecode]
  exact exec_ignoredWrite (isIgnoredWrite_decodeWrite hctrl hdata hsel _) s

end Sys2Proof
end

section
/-! PROOF. The encoding (30_encoding.md R80 to R88): which bits of a word its decoding reads, and the one row of the opcode
table that a word lies in. -/

namespace Sys2Proof

open Machine

/-! ### The bits that decoding reads -/

/-- A read is decoded by its address alone (30_encoding.md R85, R86). -/
theorem decode_read (a : Addr) (d : Word) : decode (hopOf false a d) = decodeRead a := by
  simp [decode, hopA_hopOf]

/-- A mask on the command field is a mask on the low four bits of D (30_encoding.md R82). -/
theorem and_setWidth_eq_cmdField_and (d : Word) (m : BitVec 4) : d &&& m.setWidth 32 = (cmdField d &&& m).setWidth 32 := by
  refine BitVec.eq_of_getLsbD_eq fun k hk => ?_
  by_cases hfield : k < 4
  · simp [cmdField, hfield, hk]
  · simp [BitVec.getLsbD_of_ge m k (by omega)]

/-- Two words that agree in their low four bits have one command field (30_encoding.md R82). -/
theorem cmdField_congr {d d' : Word} (h : d &&& 0xf#32 = d' &&& 0xf#32) : cmdField d = cmdField d' := by
  have hlow (x : Word) : (x &&& 0xf#32).setWidth 4 = cmdField x := by
    have hmask : x &&& 0xf#32 = (cmdField x &&& BitVec.allOnes 4).setWidth 32 := and_setWidth_eq_cmdField_and x 15#4
    rw [hmask, BitVec.and_allOnes, BitVec.setWidth_setWidth_of_le _ (by decide), BitVec.setWidth_eq]
  rw [← hlow, h, hlow]

/-- The byte of a DATA_IN write is D[7:0] (30_encoding.md R82). -/
theorem byteField_eq_setWidth (d : Word) : byteField d = d.setWidth 8 := by
  rw [byteField, BitVec.setWidth_eq_extractLsb' (by decide)]

/-- The word of a DATA_IN write of a byte, as the table writes it out (30_encoding.md R90). -/
theorem or_setWidth_eq_encode_pushb (b : Byte) : 0x1200000000#37 ||| b.setWidth 37 = encode (.pushb b) := by
  change _ = hopOf true 2#4 (b.setWidth 32)
  have hfields : BitVec.shiftLeftZeroExtend (BitVec.ofBool true ++ 2#4) 32 = 0x1200000000#37 := by decide
  rw [hopOf, BitVec.append_def, hfields, BitVec.setWidth'_eq, BitVec.setWidth_setWidth (by decide)]

/-! ### The decoded operation's row -/

/-- The word lies in the operation's row of the opcode table. -/
def Instr.RowHolds (i : Instr) (h : Hop) : Prop := ((opcodeRows[i.rowIndex]?).map fun r => r.holds h) = some true

/-- A word lies in a row whose masks leave of its address and its data what the row's pattern has there. -/
theorem rowHolds_of_masks {i : Instr} {w : Bool} {a pa ma : Addr} {d pd md : Word}
    (hrow : opcodeRows[i.rowIndex]? = some ⟨hopOf w pa pd, hopOf true ma md⟩) (ha : a &&& ma = pa) (hd : d &&& md = pd) :
    i.RowHolds (hopOf w a d) := by
  simp [Instr.RowHolds, hrow, OpcodeRow.holds, hopOf_and, ha, hd]

/-- A read's row masks W and A only (30_encoding.md R85). -/
theorem opcodeRow_decodeRead : ∀ a : Addr, opcodeRows[(decodeRead a).rowIndex]? =
    some ⟨hopOf false (a &&& 15#4) 0#32, hopOf true 15#4 0#32⟩ := by decide

/-- A CTRL write's row masks W, A and some of the command field, and has the command's bits there (30_encoding.md R83). -/
theorem exists_opcodeRow_decodeCommand : ∀ cmd : BitVec 4, ∃ m : BitVec 4, opcodeRows[(decodeCommand cmd).rowIndex]? =
    some ⟨hopOf true 0#4 ((cmd &&& m).setWidth 32), hopOf true 15#4 (m.setWidth 32)⟩ := by decide

/-- Any other write's row masks W and some of A, and has the address's bits there (30_encoding.md R85). -/
theorem exists_opcodeRow_decodeWrite : ∀ a : Addr, a ≠ 0#4 → ∃ m : Addr, opcodeRows[(decodeWrite a 0#32).rowIndex]? =
    some ⟨hopOf true (a &&& m) 0#32, hopOf true m 0#32⟩ := by decide

/-- The data of a write other than to CTRL decides neither the row of its operation nor whether it is well-formed. -/
theorem decodeWrite_rowIndex_wf {a : Addr} (ha : a ≠ 0#4) (d : Word) :
    (decodeWrite a d).rowIndex = (decodeWrite a 0#32).rowIndex ∧ (decodeWrite a d).wf = (decodeWrite a 0#32).wf := by
  simp only [decodeWrite, if_neg ha]
  split_ifs <;> exact ⟨rfl, rfl⟩

/-- A write lies in the row of its operation. -/
theorem rowHolds_decodeWrite (a : Addr) (d : Word) : (decodeWrite a d).RowHolds (hopOf true a d) := by
  by_cases ha : a = 0#4
  · subst ha
    obtain ⟨m, hrow⟩ := exists_opcodeRow_decodeCommand (cmdField d)
    exact rowHolds_of_masks hrow rfl (and_setWidth_eq_cmdField_and d m)
  · obtain ⟨m, hrow⟩ := exists_opcodeRow_decodeWrite a ha
    rw [← (decodeWrite_rowIndex_wf ha d).1] at hrow
    exact rowHolds_of_masks hrow rfl BitVec.and_zero

/-- A write decodes to a well-formed operation. -/
theorem decodeWrite_wf (a : Addr) (d : Word) : (decodeWrite a d).wf = true := by
  by_cases ha : a = 0#4
  · subst ha
    have hcommand : ∀ cmd, (decodeCommand cmd).wf = true := by decide
    exact hcommand (cmdField d)
  · have hwrite : ∀ a : Addr, (decodeWrite a 0#32).wf = true := by decide
    rw [(decodeWrite_rowIndex_wf ha d).2, hwrite a]

/-- Every word lies in the row of the operation it decodes to (30_encoding.md R88). -/
theorem decode_rowHolds (h : Hop) : (decode h).RowHolds h := by
  rw [← hopOf_fields h]
  cases hopW h
  · rw [decode_read]
    exact rowHolds_of_masks (opcodeRow_decodeRead _) rfl BitVec.and_zero
  · rw [decode_write]
    exact rowHolds_decodeWrite _ _

/-- Every word decodes to a well-formed operation (30_encoding.md R88). -/
theorem decode_wf (h : Hop) : (decode h).wf = true := by
  have hread : ∀ a, (decodeRead a).wf = true := by decide
  rw [decode]
  split
  · exact decodeWrite_wf _ _
  · exact hread _

/-! ### At most one row -/

/-- Any two rows of the table differ in a bit that both their masks cover (30_encoding.md R85, R83). -/
theorem opcodeRows_pairwise : opcodeRows.Pairwise fun r r' => r.pattern &&& r'.mask ≠ r'.pattern &&& r.mask := by decide

/-- No word lies in two rows that differ in a bit that both their masks cover. -/
theorem OpcodeRow.not_holds_both {r r' : OpcodeRow} (hdiff : r.pattern &&& r'.mask ≠ r'.pattern &&& r.mask) (h : Hop) :
    ¬(r.holds h = true ∧ r'.holds h = true) := by
  rintro ⟨hr, hr'⟩
  simp only [OpcodeRow.holds, beq_iff_eq] at hr hr'
  exact hdiff (by rw [← hr, ← hr', BitVec.and_assoc, BitVec.and_assoc, BitVec.and_comm r.mask])

/-- A list in which some element has a property and no two elements both have it has one such element. -/
theorem countP_eq_one_of_pairwise {α : Type} {p : α → Bool} {l : List α} {x : α} (hx : x ∈ l) (hp : p x = true)
    (hl : l.Pairwise fun a b => ¬(p a = true ∧ p b = true)) : l.countP p = 1 := by
  obtain ⟨before, after, rfl⟩ := List.append_of_mem hx
  obtain ⟨-, ⟨hafter, -⟩, hbefore⟩ := by simpa only [List.pairwise_append, List.pairwise_cons] using hl
  have hzero : before.countP p = 0 ∧ after.countP p = 0 :=
    ⟨List.countP_eq_zero.mpr fun a ha hpa => hbefore a ha x (by simp) ⟨hpa, hp⟩,
      List.countP_eq_zero.mpr fun a ha hpa => hafter a ha ⟨hp, hpa⟩⟩
  simp [hp, hzero]

/-! ### Statements -/

/-- Settles O1: the operand of a well-formed operation fits the field its row gives it. -/
theorem decodeOfEncodeIsTheOperation : Obligations.DecodeOfEncodeIsTheOperation := fun _ => decode_encode

/-- Settles O2: the decoded operation's row is one row the word lies in, and no two rows have a word in common. -/
theorem everyWordLiesInExactlyOneTableRow : Obligations.EveryWordLiesInExactlyOneTableRow := by
  intro h
  have hrow := decode_rowHolds h
  obtain ⟨r, hr, hholds⟩ := Option.map_eq_some_iff.mp hrow
  exact ⟨countP_eq_one_of_pairwise (List.mem_of_getElem? hr) hholds
    (opcodeRows_pairwise.imp fun hdiff => OpcodeRow.not_holds_both hdiff h), hrow, decode_wf h⟩

/-- Settles O3: a CTRL write is decoded by its command field, a DATA_IN write by its byte, a read by its address. -/
theorem ignoredBitsChangeNothing : Obligations.IgnoredBitsChangeNothing := by
  refine ⟨fun d d' h => ?_, fun d => ?_, fun a d d' => ?_⟩
  · rw [decode_write, decode_write]
    exact congrArg decodeCommand (cmdField_congr h)
  · rw [decode_write, ← byteField_eq_setWidth]
    rfl
  · rw [decode_read, decode_read]

/-- Settles O4: the word of PUSHB is the canonical word at every byte, and each other word is a single one. -/
theorem writtenOutWordsDecode : Obligations.WrittenOutWordsDecode := by
  refine ⟨by decide, by decide, by decide, by decide, by decide, fun b => ?_, by decide, by decide, by decide, by decide,
    by decide, by decide⟩
  rw [or_setWidth_eq_encode_pushb, decode_encode rfl]

/-- Settles O9: a cycle is a reset, a transaction, which answers a next state whatever its word, or neither. -/
theorem everyStepAnswersANextState : Obligations.EveryStepAnswersANextState := by
  intro s
  cases hrst : s.currentCycle.rst
  · cases hsel : s.currentCycle.busSel
    · exact ⟨_, step_quiet hrst hsel⟩
    · obtain ⟨u, hu⟩ := exec_answers (decode s.currentCycle.hop) s.beginCycle
      exact ⟨_, step_transaction hrst hsel hu⟩
  · exact ⟨_, step_reset hrst⟩

end Sys2Proof
end

section
/-! PROOF. The samples of a capture are its bytes, most significant bit first (40_bit_expander.md R101, R103). -/

namespace Sys2Proof.Machine

/-- Sample `m` of a byte is its bit `7 − m` (R101). -/
theorem byteSamples_getElem? (b : Byte) {m : Nat} (h : m < 8) : (byteSamples b)[m]? = some (b.getLsbD (7 - m)) := by
  interval_cases m <;> rfl

/-- The samples of the first byte come first, and those of the other bytes follow eight places later. -/
theorem expand_getElem? (bytes : List Byte) (t : Nat) :
    (expand bytes)[t]? = (bytes[t / 8]?).map fun b => b.getLsbD (7 - t % 8) := by
  induction bytes generalizing t with
  | nil => simp [expand]
  | cons b bs ih =>
    rcases Nat.lt_or_ge t 8 with ht | ht
    · rw [expand, List.getElem?_append_left ht, byteSamples_getElem? b ht, Nat.div_eq_of_lt ht, Nat.mod_eq_of_lt ht]
      rfl
    · obtain ⟨u, rfl⟩ := Nat.exists_eq_add_of_le' ht
      have hrest : (expand (b :: bs))[u + 8]? = (expand bs)[u]? := List.getElem?_append_right ht
      rw [hrest, ih, Nat.add_div_right u (by decide), Nat.add_mod_right, List.getElem?_cons_succ]

/-- A byte's eight bits, the first as the most significant one, make up the byte. -/
theorem packByte_getLsbD (b : Byte) :
    packByte (b.getLsbD 7) (b.getLsbD 6) (b.getLsbD 5) (b.getLsbD 4) (b.getLsbD 3) (b.getLsbD 2) (b.getLsbD 1)
      (b.getLsbD 0) = b := by
  refine BitVec.eq_of_getLsbD_eq fun i hi => ?_
  simp only [packByte, BitVec.getLsbD_append, BitVec.getLsbD_ofBool]
  interval_cases i <;> simp

/-- Packing inverts expansion, a byte at a time (R103). -/
theorem repack_expand (bytes : List Byte) : repack (expand bytes) = bytes := by
  induction bytes with
  | nil => rfl
  | cons b bs ih =>
    have hbyte : repack (byteSamples b ++ expand bs) = b :: repack (expand bs) :=
      congrArg (· :: repack (expand bs)) (packByte_getLsbD b)
    rw [expand, hbyte, ih]

end Sys2Proof.Machine

namespace Sys2Proof

open Machine

/-- Settles O42: sample t falls in byte t div 8, because every byte before it gives eight samples. -/
theorem samplesAreTheBytesMsbFirst : Obligations.SamplesAreTheBytesMsbFirst :=
  fun bytes => ⟨expand_length bytes, fun t _ => expand_getElem? bytes t⟩

/-- Settles O43: the eight samples of each byte pack into that byte. -/
theorem repackingTheSamplesGivesTheCapture : Obligations.RepackingTheSamplesGivesTheCapture :=
  fun bytes => ⟨repack_expand bytes, expand_length bytes⟩

end Sys2Proof
end

section
/-! PROOF. The runs of a sample sequence are its transitions (41_run_length.md R111 to R117), and a scan compares durations
with 30 alone (R118). -/

namespace Sys2Proof.Machine

/-! ### The transition indices -/

/-- Two equal samples at the start are no transition, and the others move by one place. -/
theorem transitions_cons_same (a : Bool) (rest : List Bool) :
    transitions (a :: a :: rest) = (transitions (a :: rest)).map Nat.succ := by
  simp [transitions, List.range_succ_eq_map, List.filter_map, Function.comp_def]

/-- Two different samples at the start are a transition at 0, and the others move by one place. -/
theorem transitions_cons_change {a b : Bool} (h : a ≠ b) (rest : List Bool) :
    transitions (a :: b :: rest) = 0 :: (transitions (b :: rest)).map Nat.succ := by
  simp [transitions, List.range_succ_eq_map, List.filter_map, Function.comp_def, h]

/-- Fewer than two samples have no transition (R112). -/
theorem transitions_eq_nil {s : List Bool} (h : ∀ a b rest, s = a :: b :: rest → False) : transitions s = [] := by
  match s, h with
  | [], _ | [_], _ => rfl
  | a :: b :: rest, h => exact (h a b rest rfl).elim

/-- The transition indices ascend. -/
theorem transitions_pairwise (s : List Bool) : (transitions s).Pairwise (· < ·) := List.pairwise_lt_range.filter _

/-- A transition at `t` needs the samples `t` and `t + 1`. -/
theorem lt_of_mem_transitions {s : List Bool} {t : Nat} (h : t ∈ transitions s) : t < s.length - 1 :=
  List.mem_range.mp (List.mem_filter.mp h).1

/-- The transition before number `j + 1` is number `j`. -/
theorem previousTransition_succ {ts : List Nat} {j : Nat} (h : j < ts.length) :
    previousTransition ts (j + 1) = ts[j] := by
  simp [previousTransition, h]

/-- The transition before the `k`-th is entry `k` of the indices with 0 put in front of them. -/
theorem zero_cons_getElem?_eq_previousTransition {ts : List Nat} {k : Nat} (h : k ≤ ts.length) :
    (0 :: ts)[k]? = some (previousTransition ts k) := by
  cases k with
  | zero => rfl
  | succ j => rw [previousTransition_succ h, List.getElem?_cons_succ, List.getElem?_eq_getElem]

/-- Among ascending indices, the one before a later one is below it. -/
theorem previousTransition_lt {ts : List Nat} (hts : ts.Pairwise (· < ·)) {k t : Nat} (hk : 1 ≤ k)
    (h : ts[k]? = some t) : previousTransition ts k < t := by
  obtain ⟨hlt, rfl⟩ := List.getElem?_eq_some_iff.mp h
  obtain ⟨j, rfl⟩ := Nat.exists_eq_add_of_le' hk
  rw [previousTransition_succ (Nat.lt_of_succ_lt hlt)]
  exact List.pairwise_iff_getElem.mp hts j (j + 1) _ hlt (Nat.lt_succ_self j)

/-- Among ascending indices, no index is below the one before it. -/
theorem previousTransition_le {ts : List Nat} (hts : ts.Pairwise (· < ·)) {k t : Nat} (h : ts[k]? = some t) :
    previousTransition ts k ≤ t := by
  rcases Nat.eq_zero_or_pos k with rfl | hk
  · exact Nat.zero_le t
  · exact (previousTransition_lt hts hk h).le

/-! ### Levels and durations of the runs -/

/-- The levels of the runs are the samples after the transitions (R113). -/
theorem rleFrom_levels (prev i : Nat) (s : List Bool) :
    (rleFrom prev i s).map (fun r => some r.lvl) = (transitions s).map fun t => s[t + 1]? := by
  induction prev, i, s using rleFrom.induct with
  | case1 prev i a rest ih => simpa [rleFrom, transitions_cons_same, Function.comp_def] using ih
  | case2 prev i a b rest hab ih => simpa [rleFrom, hab, transitions_cons_change hab, Function.comp_def] using ih
  | case3 prev i s hshort => simp [rleFrom, transitions_eq_nil hshort]

/-- The durations of the runs are the distances between neighbours among `prev` and the transitions, counted from sample
index `i` on (R114). -/
theorem rleFrom_durations (prev i : Nat) (s : List Bool) :
    (rleFrom prev i s).map Run.dur =
      List.zipWith (· - ·) ((transitions s).map (i + ·)) (prev :: (transitions s).map (i + ·)) := by
  induction prev, i, s using rleFrom.induct with
  | case1 prev i a rest ih =>
    simpa [rleFrom, transitions_cons_same, Nat.add_right_comm, Function.comp_def, ← Nat.add_assoc] using ih
  | case2 prev i a b rest hab ih =>
    simpa [rleFrom, hab, transitions_cons_change hab, Nat.add_right_comm, Function.comp_def, ← Nat.add_assoc] using ih
  | case3 prev i s hshort => simp [rleFrom, transitions_eq_nil hshort]

/-- The levels of the run sequence (R113). -/
theorem rle_levels (s : List Bool) : (rle s).map (fun r => some r.lvl) = (transitions s).map fun t => s[t + 1]? :=
  rleFrom_levels 0 0 s

/-- There are as many runs as transitions (R111). -/
theorem rle_length (s : List Bool) : (rle s).length = (transitions s).length := by
  simpa using congrArg List.length (rle_levels s)

/-- The durations are the distances between neighbours among 0 and the transitions (R114). -/
theorem rle_durations (s : List Bool) :
    (rle s).map Run.dur = List.zipWith (· - ·) (transitions s) (0 :: transitions s) := by
  simpa [rle] using rleFrom_durations 0 0 s

/-- The run of the `k`-th transition (R113, R114). -/
theorem rle_getElem? {s : List Bool} {k t : Nat} (h : (transitions s)[k]? = some t) :
    ∃ lvl, s[t + 1]? = some lvl ∧ (rle s)[k]? = some ⟨lvl, t - previousTransition (transitions s) k⟩ := by
  obtain ⟨hk, -⟩ := List.getElem?_eq_some_iff.mp h
  have hlevel := congrArg (·[k]?) (rle_levels s)
  have hdur := congrArg (·[k]?) (rle_durations s)
  have hrun := List.getElem?_eq_getElem (rle_length s ▸ hk)
  simp only [List.getElem?_map, hrun, h, Option.map_some, Option.some.injEq] at hlevel
  simp only [List.getElem?_map, List.getElem?_zipWith, hrun, h, zero_cons_getElem?_eq_previousTransition hk.le,
    Option.map_some, Option.some.injEq] at hdur
  exact ⟨_, hlevel.symm, by rw [hrun, ← hdur]⟩

/-- Distances between neighbours sum to the last of the ascending numbers. -/
theorem sum_distances {p : Nat} {ts : List Nat} (h : (p :: ts).Pairwise (· ≤ ·)) :
    (List.zipWith (· - ·) ts (p :: ts)).sum + p = ts.getLast?.getD p := by
  induction ts generalizing p with
  | nil => simp
  | cons t ts ih =>
    obtain ⟨hp, hts⟩ := List.pairwise_cons.mp h
    have hle : p ≤ t := hp t List.mem_cons_self
    have hrest := ih hts
    simp only [List.zipWith_cons_cons, List.sum_cons, List.getLast?_cons, Option.getD_some]
    omega

/-- The runs of samples that begin with `b` alternate, from the complement of `b` on: with a run of level `b` put in front,
they alternate still (R115). -/
theorem levelsAlternate_cons_rleFrom (d prev i : Nat) (b : Bool) (rest : List Bool) :
    levelsAlternate (⟨b, d⟩ :: rleFrom prev i (b :: rest)) = true := by
  induction rest generalizing d prev i b with
  | nil => rfl
  | cons c rest ih =>
    by_cases h : b = c
    · subst h
      simpa [rleFrom] using ih d prev (i + 1) b
    · simpa [rleFrom, h, levelsAlternate, Bool.eq_not_of_ne (Ne.symm h)] using ih (i - prev) i (i + 1) c

/-! ### Saturated durations -/

/-- The pattern reads of the runs what its entries compare. -/
theorem patternHolds_map {f : Run → Run} {es : List PatternEntry} (h : ∀ e ∈ es, ∀ r, e.holds (f r) = e.holds r)
    (runs : List Run) (k : Nat) : patternHolds (runs.map f) es k = patternHolds runs es k := by
  induction es generalizing k with
  | nil => rfl
  | cons e es ih =>
    obtain ⟨he, hes⟩ := List.forall_mem_cons.mp h
    cases hr : runs[k]? with
    | none => simp [patternHolds, hr]
    | some r => simp [patternHolds, hr, he, ih hes]

/-- Reconstruction reads of the runs whether they are long (43_bit_reconstructor.md R153, R154). -/
theorem reconLoop_map {f : Run → Run} (h : ∀ r, tToggle < (f r).dur ↔ tToggle < r.dur) (runs : List Run) (k : Nat)
    (cur : Bool) (j : Nat) : reconLoop (runs.map f) k cur j = reconLoop runs k cur j := by
  induction k generalizing cur j with
  | zero => rfl
  | succ k ih =>
    cases hr : runs[j]? with
    | none => simp [reconLoop, hr]
    | some r => cases hpeek : runs[j + 1]? <;> simp [reconLoop, hr, hpeek, h, ih]

/-- Every entry of the pattern compares with 30 (42_preamble_matcher.md R136). -/
theorem preamblePattern_thresholds : ∀ e ∈ preamblePattern, e.test = .atLeast 30 ∨ e.test = .atMost 30 := by decide

/-- A duration saturated at 31 lies on the same side of 30. -/
theorem holds_saturate {e : PatternEntry} (he : e ∈ preamblePattern) (r : Run) : e.holds r.saturate = e.holds r := by
  obtain h | h := preamblePattern_thresholds e he <;> simp [PatternEntry.holds, h, DurTest.holds, Run.saturate]

/-- A run saturated at 31 is long exactly when the run is. -/
theorem tToggle_lt_saturate (r : Run) : tToggle < r.saturate.dur ↔ tToggle < r.dur := by
  simp [Run.saturate, tToggle]

/-- An attempt compares durations with 30 alone (R118). -/
theorem attempt_saturate (runs : List Run) (i : Nat) : attempt (runs.map Run.saturate) i = attempt runs i := by
  have hmatch : matchPreamble (runs.map Run.saturate) i = matchPreamble runs i := by
    rw [matchPreamble, patternHolds_map fun _ => holds_saturate, matchPreamble]
  have hrecon (p : Nat) : recon (runs.map Run.saturate) p = recon runs p := by
    rw [recon, reconLoop_map tToggle_lt_saturate, recon]
  simp only [attempt, hmatch, hrecon]

end Sys2Proof.Machine

namespace Sys2Proof

open Machine

/-- Settles O44: levels and durations of the runs are read off the transitions, which ascend. -/
theorem runsAreTheTransitions : Obligations.RunsAreTheTransitions := by
  refine fun s => ⟨rle_length s, fun k t ht => ?_⟩
  obtain ⟨lvl, hlvl, hrun⟩ := rle_getElem? ht
  exact ⟨lvl, hlvl, previousTransition_le (transitions_pairwise s) ht, hrun⟩

/-- Settles O45: a run with the level of the first sample can stand in front of the runs, and they alternate. -/
theorem runLevelsAlternate : Obligations.RunLevelsAlternate := by
  intro s
  cases s with
  | nil => exact ⟨rfl, by simp [rle, rleFrom]⟩
  | cons b rest =>
    have halt := levelsAlternate_cons_rleFrom 0 0 0 b rest
    rw [← rle] at halt
    cases hruns : rle (b :: rest) with
    | nil => exact ⟨rfl, by simp⟩
    | cons r runs =>
      simp only [hruns, levelsAlternate, Bool.and_eq_true, beq_iff_eq] at halt
      simpa using halt.symm

/-- Settles O46: a duration is a distance between two of the ascending indices 0, t_0, t_1, …, all of which are at most
N − 2. -/
theorem runsAndDurationsAreBounded : Obligations.RunsAndDurationsAreBounded := by
  refine ⟨fun s k r hr => ?_, fun s => ⟨rleFrom_length_le 0 0 s, fun t ht => ?_⟩, fun _ _ => captureRuns_length_le⟩
  · obtain ⟨hk, -⟩ := List.getElem?_eq_some_iff.mp hr
    have ht := List.getElem?_eq_getElem (rle_length s ▸ hk)
    obtain ⟨lvl, -, hrun⟩ := rle_getElem? ht
    obtain rfl := Option.some.inj (hr.symm.trans hrun)
    have hlast := lt_of_mem_transitions (List.mem_of_getElem? ht)
    refine ⟨?_, fun hlater => Nat.sub_pos_of_lt (previousTransition_lt (transitions_pairwise s) hlater ht)⟩
    dsimp only
    omega
  · have hasc : (0 :: transitions s).Pairwise (· ≤ ·) :=
      List.pairwise_cons.mpr ⟨fun _ _ => Nat.zero_le _, (transitions_pairwise s).imp Nat.le_of_lt⟩
    simpa [rle_durations, ht] using sum_distances hasc

/-- Settles O59: no comparison of a scan tells a duration from the one saturated at 31. -/
theorem saturatedDurationsScanAlike : Obligations.SaturatedDurationsScanAlike := by
  refine fun runs => ⟨attempt_saturate runs, ?_, ?_⟩
  · simp only [scanResults, List.length_map, attempt_saturate]
  · simp only [scanCounters, attempts, List.length_map, funext (attempt_saturate runs)]

end Sys2Proof
end

section
/-! PROOF. The preamble matcher reads its 17 runs off the pattern table, and on alternating levels the sync level and the
durations decide (42_preamble_matcher.md R136, R138). -/

namespace Sys2Proof.Machine

/-! ### The pattern, entry by entry -/

/-- A run passes a lower-bound entry by its level and a duration from the bound on. -/
@[simp] theorem PatternEntry.holds_atLeast_iff {b : Bool} {n : Nat} {r : Run} :
    (PatternEntry.mk b (.atLeast n)).holds r = true ↔ r.lvl = b ∧ n ≤ r.dur := by
  simp [PatternEntry.holds, DurTest.holds]

/-- A run passes an upper-bound entry by its level and a duration up to the bound. -/
@[simp] theorem PatternEntry.holds_atMost_iff {b : Bool} {n : Nat} {r : Run} :
    (PatternEntry.mk b (.atMost n)).holds r = true ↔ r.lvl = b ∧ r.dur ≤ n := by
  simp [PatternEntry.holds, DurTest.holds]

/-- A pattern holds at `k` when run `k` exists and passes the first entry, and the other entries hold from `k + 1` on. -/
theorem patternHolds_cons_iff {runs : List Run} {e : PatternEntry} {es : List PatternEntry} {k : Nat} :
    patternHolds runs (e :: es) k = true ↔
      (∃ r, runs[k]? = some r ∧ e.holds r = true) ∧ patternHolds runs es (k + 1) = true := by
  cases hr : runs[k]? <;> simp [patternHolds, hr]

/-- The pairs hold from `j` on when each is a low and a high run of duration at most 30 (R132). -/
theorem patternHolds_pairEntries_iff {runs : List Run} {n j : Nat} :
    patternHolds runs (pairEntries n) j = true ↔ ∀ k, k < n →
      (∃ r, runs[j + 2 * k]? = some r ∧ r.lvl = false ∧ r.dur ≤ 30) ∧
      ∃ r, runs[j + 1 + 2 * k]? = some r ∧ r.lvl = true ∧ r.dur ≤ 30 := by
  induction n generalizing j with
  | zero => simp [pairEntries, patternHolds]
  | succ n ih =>
    have hnext (i k : Nat) : i + 1 + 1 + 2 * k = i + 2 * (k + 1) := by omega
    simp only [pairEntries, patternHolds_cons_iff, ih, Nat.forall_lt_succ_left, hnext]
    simp [tShortMax, and_assoc]

/-- MATCH succeeds when the pattern holds. -/
theorem matchPreamble_isSome (runs : List Run) (st : Nat) :
    (matchPreamble runs st).isSome = patternHolds runs preamblePattern st := by
  cases h : patternHolds runs preamblePattern st <;> simp [matchPreamble, h]

/-- MATCH succeeds when the sync run and the eight pairs exist and pass (R131, R132). -/
theorem matchPreamble_isSome_iff {runs : List Run} {st : Nat} :
    (matchPreamble runs st).isSome = true ↔
      (∃ r, runs[st]? = some r ∧ r.lvl = true ∧ 30 ≤ r.dur) ∧ ∀ k, k < 8 →
        (∃ r, runs[st + 1 + 2 * k]? = some r ∧ r.lvl = false ∧ r.dur ≤ 30) ∧
        ∃ r, runs[st + 2 + 2 * k]? = some r ∧ r.lvl = true ∧ r.dur ≤ 30 := by
  rw [matchPreamble_isSome, preamblePattern, patternHolds_cons_iff, patternHolds_pairEntries_iff]
  simp [tSyncMin, nPairs]

/-- A match has all its 17 runs: the last of them is the high run of the eighth pair (R133). -/
theorem lt_length_of_matchPreamble {runs : List Run} {st : Nat} (h : (matchPreamble runs st).isSome = true) :
    st + 16 < runs.length := by
  obtain ⟨-, hpairs⟩ := matchPreamble_isSome_iff.mp h
  obtain ⟨-, r, hr, -⟩ := hpairs 7 (by decide)
  exact (List.getElem?_eq_some_iff.mp hr).1

/-! ### Alternating levels -/

/-- With alternating levels, the level of run `i` is the first level, inverted for odd `i`. -/
theorem levelsAlternate_lvl_eq_xor_bodd {q r : Run} {rest : List Run} {i : Nat}
    (halt : levelsAlternate (q :: rest) = true) (hr : (q :: rest)[i]? = some r) : r.lvl = (q.lvl ^^ i.bodd) := by
  induction i generalizing q rest with
  | zero =>
    obtain rfl : q = r := by simpa using hr
    simp
  | succ i ih =>
    cases rest with
    | nil => simp at hr
    | cons p rest =>
      simp only [levelsAlternate, Bool.and_eq_true, beq_iff_eq] at halt
      obtain ⟨hp, hrest⟩ := halt
      simpa [hp] using ih hrest hr

/-- With alternating levels, two runs have one level when their indices have one parity (R115). -/
theorem levelsAlternate_lvl_eq_iff {runs : List Run} {i j : Nat} {r q : Run} (halt : levelsAlternate runs = true)
    (hi : runs[i]? = some r) (hj : runs[j]? = some q) : r.lvl = q.lvl ↔ i % 2 = j % 2 := by
  cases runs with
  | nil => simp at hi
  | cons p rest =>
    rw [levelsAlternate_lvl_eq_xor_bodd halt hi, levelsAlternate_lvl_eq_xor_bodd halt hj, Bool.xor_right_inj,
      Nat.mod_two_of_bodd, Nat.mod_two_of_bodd]
    cases i.bodd <;> cases j.bodd <;> decide

/-- With alternating levels, the sync level and the durations decide a match (R138). -/
theorem matchPreamble_isSome_iff_of_levelsAlternate {runs : List Run} (halt : levelsAlternate runs = true) {st : Nat} :
    (matchPreamble runs st).isSome = true ↔
      st + 16 < runs.length ∧ (∃ r, runs[st]? = some r ∧ r.lvl = true ∧ 30 ≤ r.dur) ∧
      ∀ e r, 1 ≤ e → e ≤ 16 → runs[st + e]? = some r → r.dur ≤ 30 := by
  constructor
  · intro h
    obtain ⟨hsync, hpairs⟩ := matchPreamble_isSome_iff.mp h
    refine ⟨lt_length_of_matchPreamble h, hsync, fun e r hpos hle hr => ?_⟩
    obtain ⟨⟨low, hlow, -, hlowDur⟩, high, hhigh, -, hhighDur⟩ := hpairs ((e - 1) / 2) (by omega)
    obtain he | he : st + e = st + 1 + 2 * ((e - 1) / 2) ∨ st + e = st + 2 + 2 * ((e - 1) / 2) := by omega
    · rw [he, hlow] at hr
      exact Option.some.inj hr ▸ hlowDur
    · rw [he, hhigh] at hr
      exact Option.some.inj hr ▸ hhighDur
  · rintro ⟨hlen, ⟨s, hs, hlvl, hdur⟩, hshort⟩
    have hrun (e : Nat) (hpos : 1 ≤ e) (hle : e ≤ 16) :
        ∃ r, runs[st + e]? = some r ∧ (r.lvl = true ↔ e % 2 = 0) ∧ r.dur ≤ 30 := by
      have hr := List.getElem?_eq_getElem (l := runs) (i := st + e) (by omega)
      have hparity := levelsAlternate_lvl_eq_iff halt hr hs
      refine ⟨_, hr, ?_, hshort e _ hpos hle hr⟩
      rw [← hlvl, hparity]
      omega
    refine matchPreamble_isSome_iff.mpr ⟨⟨s, hs, hlvl, hdur⟩, fun k hk => ⟨?_, ?_⟩⟩
    · obtain ⟨r, hr, hrlvl, hrdur⟩ := hrun (1 + 2 * k) (by omega) (by omega)
      exact ⟨r, by rwa [Nat.add_assoc], by simpa using mt hrlvl.mp (by omega), hrdur⟩
    · obtain ⟨r, hr, hrlvl, hrdur⟩ := hrun (2 + 2 * k) (by omega) (by omega)
      exact ⟨r, by rwa [Nat.add_assoc], hrlvl.mpr (by omega), hrdur⟩

end Sys2Proof.Machine

namespace Sys2Proof

open Machine

/-- Settles O47: the runs of a match are read off the pattern table entry by entry, and the last of them bounds the length. -/
theorem matchIsThePatternTable : Obligations.MatchIsThePatternTable := by
  intro runs st p
  constructor
  · intro h
    have hsome : (matchPreamble runs st).isSome = true := Option.isSome_of_eq_some h
    exact ⟨matchPreamble_eq_some h, lt_length_of_matchPreamble hsome, matchPreamble_isSome_iff.mp hsome⟩
  · rintro ⟨rfl, -, hruns⟩
    obtain ⟨p, hp⟩ := Option.isSome_iff_exists.mp (matchPreamble_isSome_iff.mpr hruns)
    exact matchPreamble_eq_some hp ▸ hp

/-- Settles O48: both sync runs are high, so their indices have one parity; the later one lies among the short runs of the
first match, and a sync run is at least 30 long. -/
theorem overlappingMatchesShareADurationOfThirty : Obligations.OverlappingMatchesShareADurationOfThirty := by
  intro runs halt
  refine ⟨fun _ => matchPreamble_isSome_iff_of_levelsAlternate halt, fun st st' h h' => ?_⟩
  obtain ⟨-, ⟨r, hr, hlvl, -⟩, hshort⟩ := (matchPreamble_isSome_iff_of_levelsAlternate halt).mp h
  obtain ⟨-, ⟨r', hr', hlvl', hlong⟩, -⟩ := (matchPreamble_isSome_iff_of_levelsAlternate halt).mp h'
  refine ⟨(levelsAlternate_lvl_eq_iff halt hr hr').mp (hlvl.trans hlvl'.symm), fun hlt hle => ⟨r', hr', ?_⟩⟩
  obtain ⟨e, rfl⟩ := Nat.exists_eq_add_of_lt hlt
  exact (hshort (e + 1) r' (by omega) (by omega) hr').antisymm hlong

end Sys2Proof
end

section
/-! PROOF. RECON reads of the runs from its start on only whether each is long, and ends on a whole body, on a hold cut off
by a long run, or where the runs end (43_bit_reconstructor.md R152 to R159). -/

namespace Sys2Proof.Machine

/-! ### The classes of the runs -/

/-- A run is long when it is a toggle (R153). -/
def Run.isLong (r : Run) : Bool := decide (30 < r.dur)

/-- The loop of R158 over the classes (long = true) of the runs still to come, with `k` bits to collect and the current
bit `cur`. -/
def decodeClasses : Nat → Bool → List Bool → Except ReconFailure (List Bool)
  | 0, _, _ => .ok []
  | k + 1, cur, true :: cs => (decodeClasses k (!cur) cs).map ((!cur) :: ·)
  | k + 1, cur, false :: false :: cs => (decodeClasses k cur cs).map (cur :: ·)
  | _ + 1, _, false :: true :: _ => .error .collision
  | _ + 1, _, _ => .error .truncated

/-- The loop reads the classes of the runs from its cursor on (R157). -/
theorem reconLoop_eq_decodeClasses (runs : List Run) (k : Nat) (cur : Bool) (j : Nat) :
    reconLoop runs k cur j = decodeClasses k cur ((runs.drop j).map Run.isLong) := by
  induction k generalizing cur j with
  | zero => simp [reconLoop, decodeClasses]
  | succ k ih =>
    cases hdrop : runs.drop j with
    | nil =>
      have hr : runs[j]? = none := by simpa using hdrop
      simp [reconLoop, decodeClasses, hr]
    | cons r rest =>
      have hr : runs[j]? = some r := by simp [← List.head?_drop, hdrop]
      have hrest : runs.drop (j + 1) = rest := by simp [← List.tail_drop, hdrop]
      by_cases hlong : 30 < r.dur
      · simp [reconLoop, decodeClasses, hr, hrest, ih, Run.isLong, tToggle, hlong]
      · cases rest with
        | nil =>
          have hpeek : runs[j + 1]? = none := by simpa using hrest
          simp [reconLoop, decodeClasses, hr, hpeek, Run.isLong, tToggle, hlong]
        | cons q rest =>
          have hpeek : runs[j + 1]? = some q := by simp [← List.head?_drop, hrest]
          have hnext : runs.drop (j + 2) = rest := by rw [← List.tail_drop, hrest, List.tail_cons]
          by_cases hq : 30 < q.dur <;>
            simp [reconLoop, decodeClasses, hr, hpeek, hnext, ih, Run.isLong, tToggle, hlong, hq]

/-- RECON puts the header in front of the body that the classes give (R151, R152). -/
theorem recon_eq_decodeClasses (runs : List Run) (p : Nat) :
    recon runs p = (decodeClasses 55 true ((runs.drop p).map Run.isLong)).map (List.replicate 9 true ++ ·) := by
  simp only [recon, reconLoop_eq_decodeClasses, nLb, nHeader]

/-! ### Where decoding stops -/

/-- A mapped outcome succeeds with the image of what the outcome holds. -/
theorem exceptMap_eq_ok_iff {ε α β : Type} {f : α → β} {x : Except ε α} {b : β} :
    x.map f = .ok b ↔ ∃ a, x = .ok a ∧ f a = b := by
  cases x <;> simp [Except.map]

/-- A mapped outcome fails as the outcome does. -/
theorem exceptMap_eq_error_iff {ε α β : Type} {f : α → β} {x : Except ε α} {e : ε} :
    x.map f = .error e ↔ x = .error e := by
  cases x <;> simp [Except.map]

/-- The classes of some bits decode to these bits, and decoding goes on behind them from the last of them (R159). -/
theorem decodeClasses_bodyClasses_append (bits : List Bool) (k : Nat) (cur : Bool) (cs : List Bool) :
    decodeClasses (bits.length + k) cur (bodyClasses cur bits ++ cs) =
      (decodeClasses k (bits.getLastD cur) cs).map (bits ++ ·) := by
  induction bits generalizing cur with
  | nil => cases h : decodeClasses k cur cs <;> simp [bodyClasses, Except.map, h]
  | cons b bs ih =>
    have hlen : (b :: bs).length + k = bs.length + k + 1 := by simp [Nat.add_right_comm]
    have hstep : decodeClasses (bs.length + k + 1) cur (bodyClasses cur (b :: bs) ++ cs) =
        (decodeClasses (bs.length + k) b (bodyClasses b bs ++ cs)).map (b :: ·) := by
      by_cases hb : b = cur
      · simp [bodyClasses, decodeClasses, hb]
      · simp [bodyClasses, decodeClasses, Bool.eq_not_of_ne hb]
    rw [hlen, hstep, ih, List.getLastD_cons]
    cases decodeClasses k (bs.getLastD b) cs <;> rfl

/-- Where the bits end with more to collect, decoding fails as it fails on what follows them. -/
theorem decodeClasses_eq_error_of_lt {bits rest : List Bool} {k : Nat} {cur : Bool} {e : ReconFailure}
    (hk : bits.length < k) (hrest : ∀ m last, decodeClasses (m + 1) last rest = .error e) :
    decodeClasses k cur (bodyClasses cur bits ++ rest) = .error e := by
  obtain ⟨m, rfl⟩ := Nat.exists_eq_add_of_lt hk
  rw [Nat.add_assoc, decodeClasses_bodyClasses_append, exceptMap_eq_error_iff, hrest]

/-- What decoding answers, by what follows the bits collected: all `k` bits are there, or a long run follows a short one, or
the classes end or leave a lone short run (R152 to R155). -/
theorem decodeClasses_outcome (k : Nat) (cur : Bool) (cs : List Bool) :
    ∃ bits rest, cs = bodyClasses cur bits ++ rest ∧
      (decodeClasses k cur cs = .ok bits ∧ bits.length = k ∨
        decodeClasses k cur cs = .error .collision ∧ bits.length < k ∧ [false, true] <+: rest ∨
        decodeClasses k cur cs = .error .truncated ∧ bits.length < k ∧ (rest = [] ∨ rest = [false])) := by
  induction k generalizing cur cs with
  | zero => exact ⟨[], cs, rfl, .inl ⟨rfl, rfl⟩⟩
  | succ k ih =>
    match cs with
    | [] | [false] | false :: true :: cs => exact ⟨[], _, rfl, by simp [decodeClasses]⟩
    | true :: cs =>
      obtain ⟨bits, rest, hcs, hout⟩ := ih (!cur) cs
      refine ⟨(!cur) :: bits, rest, by simp [bodyClasses, hcs], ?_⟩
      simpa [decodeClasses, exceptMap_eq_ok_iff, exceptMap_eq_error_iff] using hout
    | false :: false :: cs =>
      obtain ⟨bits, rest, hcs, hout⟩ := ih cur cs
      refine ⟨cur :: bits, rest, by simp [bodyClasses, hcs], ?_⟩
      simpa [decodeClasses, exceptMap_eq_ok_iff, exceptMap_eq_error_iff] using hout

/-- Decoding yields the bits whose classes come first. -/
theorem decodeClasses_eq_ok_iff {k : Nat} {cur : Bool} {cs bits : List Bool} :
    decodeClasses k cur cs = .ok bits ↔ bits.length = k ∧ bodyClasses cur bits <+: cs := by
  constructor
  · intro h
    obtain ⟨bits', rest, rfl, hout⟩ := decodeClasses_outcome k cur cs
    obtain ⟨rfl, hk⟩ : bits = bits' ∧ bits'.length = k := by simpa [h] using hout
    exact ⟨hk, rest, rfl⟩
  · rintro ⟨rfl, rest, rfl⟩
    simpa [decodeClasses, Except.map] using decodeClasses_bodyClasses_append bits 0 cur rest

/-- Decoding collides on a short run before a long one, met with a bit still to collect. -/
theorem decodeClasses_eq_collision_iff {k : Nat} {cur : Bool} {cs : List Bool} :
    decodeClasses k cur cs = .error .collision ↔
      ∃ bits : List Bool, bits.length < k ∧ (bodyClasses cur bits ++ [false, true]) <+: cs := by
  constructor
  · intro h
    obtain ⟨bits, rest, rfl, hout⟩ := decodeClasses_outcome k cur cs
    obtain ⟨hk, tail, rfl⟩ : bits.length < k ∧ [false, true] <+: rest := by simpa [h] using hout
    exact ⟨bits, hk, tail, by simp⟩
  · rintro ⟨bits, hk, rest, rfl⟩
    rw [List.append_assoc]
    exact decodeClasses_eq_error_of_lt hk fun _ _ => rfl

/-- Decoding is truncated where the classes end, or end behind a lone short run, with a bit still to collect. -/
theorem decodeClasses_eq_truncated_iff {k : Nat} {cur : Bool} {cs : List Bool} :
    decodeClasses k cur cs = .error .truncated ↔
      ∃ bits : List Bool, bits.length < k ∧ (cs = bodyClasses cur bits ∨ cs = bodyClasses cur bits ++ [false]) := by
  constructor
  · intro h
    obtain ⟨bits, rest, rfl, hout⟩ := decodeClasses_outcome k cur cs
    obtain ⟨hk, hrest⟩ : bits.length < k ∧ (rest = [] ∨ rest = [false]) := by simpa [h] using hout
    exact ⟨bits, hk, by simpa using hrest⟩
  · rintro ⟨bits, hk, rfl | rfl⟩
    · simpa using decodeClasses_eq_error_of_lt (rest := []) hk fun _ _ => rfl
    · exact decodeClasses_eq_error_of_lt hk fun _ _ => rfl

/-- RECON fails as decoding the classes fails. -/
theorem recon_eq_error_iff {runs : List Run} {p : Nat} {e : ReconFailure} :
    recon runs p = .error e ↔ decodeClasses 55 true ((runs.drop p).map Run.isLong) = .error e := by
  rw [recon_eq_decodeClasses, exceptMap_eq_error_iff]

end Sys2Proof.Machine

namespace Sys2Proof

open Machine

/-- Settles O49: the header is a constant, and the classes from p on decode to the body whose classes come first. -/
theorem reconSucceedsOnTheBodyClasses : Obligations.ReconSucceedsOnTheBodyClasses := by
  intro runs p lb
  rw [recon_eq_decodeClasses, exceptMap_eq_ok_iff]
  refine exists_congr fun body => ?_
  rw [decodeClasses_eq_ok_iff, and_assoc, and_comm (b := _ = lb), eq_comm (b := lb)]
  exact Iff.rfl

/-- Settles O50: the classes from p on decide, and decoding stops at the first hold before a long run. -/
theorem collisionIsAHoldBeforeALongRun : Obligations.CollisionIsAHoldBeforeALongRun :=
  fun _ _ => recon_eq_error_iff.trans decodeClasses_eq_collision_iff

/-- Settles O51: the classes from p on decide, and they run out at a bit's first or second run. -/
theorem truncatedIsRunningOutOfRuns : Obligations.TruncatedIsRunningOutOfRuns :=
  fun _ _ => recon_eq_error_iff.trans decodeClasses_eq_truncated_iff

/-- Settles O52: the durations give the classes, and these the reconstruction. -/
theorem reconReadsDurationsOnly : Obligations.ReconReadsDurationsOnly := by
  intro runs runs' p hdur
  have hclasses (rs : List Run) :
      (rs.drop p).map Run.isLong = ((rs.map Run.dur).drop p).map fun d => decide (30 < d) := by
    simp [← List.map_drop, Function.comp_def, Run.isLong]
  rw [recon_eq_decodeClasses, recon_eq_decodeClasses, hclasses, hclasses, hdur]

end Sys2Proof
end

section
/-! PROOF. A decoded sequence is ten even-parity groups and a framing bit 0, and its groups are those of the decoded payload
(44_payload_decoder.md R171 to R179). -/

namespace Sys2Proof.Machine

/-! ### What the loop decodes -/

/-- A group has even parity when its last bit is the exclusive-or of its data bits (R172). -/
theorem groupParity_eq_false_iff {b0 b1 b2 b3 b4 : Bool} :
    groupParity b0 b1 b2 b3 b4 = false ↔ b4 = (b0 ^^ b1 ^^ b2 ^^ b3) := by
  rw [groupParity, bne_eq_false_iff_eq, eq_comm]

/-- The loop takes five bits of even parity and shifts their data bits into the payload (R172, R173). -/
theorem decodeGroups_succ_eq_some_iff {n : Nat} {bits : List Bool} {v w : Payload} :
    decodeGroups (n + 1) bits v = some w ↔ ∃ b0 b1 b2 b3, bits.take 5 = [b0, b1, b2, b3, b0 ^^ b1 ^^ b2 ^^ b3] ∧
      decodeGroups n (bits.drop 5) (v <<< 4 ||| groupNibble b0 b1 b2 b3) = some w := by
  match bits with
  | [] | [_] | [_, _] | [_, _, _] | [_, _, _, _] => simp [decodeGroups]
  | b0 :: b1 :: b2 :: b3 :: b4 :: rest =>
    rw [decodeGroups, Option.ite_none_left_eq_some, Bool.not_eq_true, groupParity_eq_false_iff]
    constructor
    · rintro ⟨rfl, h⟩
      exact ⟨b0, b1, b2, b3, rfl, h⟩
    · rintro ⟨_, _, _, _, hbits, h⟩
      cases hbits
      exact ⟨rfl, h⟩

/-- A nibble's bits are the low four bits of its payload value, the first as the most significant one, and the others are
0 (R173). -/
theorem groupNibble_getLsbD (b0 b1 b2 b3 : Bool) (j : Nat) :
    (groupNibble b0 b1 b2 b3).getLsbD j = [b3, b2, b1, b0].getD j false := by
  rcases Nat.lt_or_ge j 4 with hlow | hhigh
  · revert j b0 b1 b2 b3
    decide
  · have hzext : groupNibble b0 b1 b2 b3 =
        (BitVec.ofBool b0 ++ BitVec.ofBool b1 ++ BitVec.ofBool b2 ++ BitVec.ofBool b3).setWidth 40 := by
      revert b0 b1 b2 b3
      decide
    rw [hzext, BitVec.getLsbD_setWidth, BitVec.getLsbD_of_ge _ _ hhigh, Bool.and_false]
    exact (List.getD_eq_default _ _ hhigh).symm

/-- Shifting a nibble into a payload puts it in the low four bits (R173). -/
theorem shiftNibble_getLsbD_low (v : Payload) (b0 b1 b2 b3 : Bool) {j : Nat} (hj : j < 4) :
    (v <<< 4 ||| groupNibble b0 b1 b2 b3).getLsbD j = [b3, b2, b1, b0].getD j false := by
  simp [groupNibble_getLsbD, hj]

/-- Shifting a nibble into a payload moves the payload's bits four places up (R174). -/
theorem shiftNibble_getLsbD_high (v : Payload) (b0 b1 b2 b3 : Bool) {j : Nat} (hj : 4 + j < 40) :
    (v <<< 4 ||| groupNibble b0 b1 b2 b3).getLsbD (4 + j) = v.getLsbD j := by
  rw [BitVec.getLsbD_or, groupNibble_getLsbD, List.getD_eq_default _ _ (Nat.le_add_right 4 j), BitVec.getLsbD_shiftLeft,
    Nat.add_sub_cancel_left]
  simp [hj]

/-- Shifting a nibble into `v` gives the bits of `w` from `p` on exactly when the nibble is the next four bits of `w` and `v`
gives the bits above them (R173, R174). -/
theorem bitsFrom_eq_shiftNibble_iff {v w : Payload} {b0 b1 b2 b3 : Bool} {p : Nat} (hp : p + 4 ≤ 40) :
    (∀ j, p + j < 40 → w.getLsbD (p + j) = (v <<< 4 ||| groupNibble b0 b1 b2 b3).getLsbD j) ↔
      (∀ j, p + 4 + j < 40 → w.getLsbD (p + 4 + j) = v.getLsbD j) ∧
      b0 = w.getLsbD (p + 3) ∧ b1 = w.getLsbD (p + 2) ∧ b2 = w.getLsbD (p + 1) ∧ b3 = w.getLsbD p := by
  constructor
  · intro h
    have hbit (j : Nat) (hj : j < 4) : [b3, b2, b1, b0].getD j false = w.getLsbD (p + j) := by
      rw [h j (by omega), shiftNibble_getLsbD_low _ _ _ _ _ hj]
    refine ⟨fun j hj => ?_, hbit 3 (by decide), hbit 2 (by decide), hbit 1 (by decide), hbit 0 (by decide)⟩
    rw [Nat.add_assoc] at hj ⊢
    rw [h _ hj, shiftNibble_getLsbD_high _ _ _ _ _ (by omega)]
  · rintro ⟨habove, rfl, rfl, rfl, rfl⟩ j hj
    rcases Nat.lt_or_ge j 4 with hlow | hhigh
    · rw [shiftNibble_getLsbD_low _ _ _ _ _ hlow]
      interval_cases j <;> rfl
    · obtain ⟨k, rfl⟩ := Nat.exists_eq_add_of_le hhigh
      rw [shiftNibble_getLsbD_high _ _ _ _ _ (by omega), ← Nat.add_assoc, habove k (by omega)]

/-- The bits of group `s`, counted from the least significant of them, bit `p` (R174). -/
theorem payloadGroup_eq {p s : Nat} (hp : p + 4 * s = 36) (w : Payload) :
    payloadGroup w s = [w.getLsbD (p + 3), w.getLsbD (p + 2), w.getLsbD (p + 1), w.getLsbD p,
      w.getLsbD (p + 3) ^^ w.getLsbD (p + 2) ^^ w.getLsbD (p + 1) ^^ w.getLsbD p] := by
  obtain rfl : p = 36 - 4 * s := by omega
  simp only [payloadGroup]
  congr <;> omega

/-- With the groups from `s` on still to come, the loop yields `w` exactly when the payload so far is `w` above them and they
are those of `w` (R172 to R174). -/
theorem decodeGroups_eq_some_iff {n s : Nat} (hn : n + s = 10) {bits : List Bool} {v w : Payload} :
    decodeGroups n bits v = some w ↔ (∀ j, 4 * n + j < 40 → w.getLsbD (4 * n + j) = v.getLsbD j) ∧
      ∀ g < n, (bits.drop (5 * g)).take 5 = payloadGroup w (s + g) := by
  induction n generalizing s bits v with
  | zero => simp [decodeGroups, eq_comm (a := v), BitVec.eq_of_getLsbD_eq_iff]
  | succ n ih =>
    have hrest (g : Nat) : (bits.drop (5 * (g + 1))).take 5 = payloadGroup w (s + (g + 1)) ↔
        ((bits.drop 5).drop (5 * g)).take 5 = payloadGroup w (s + 1 + g) := by
      rw [List.drop_drop, Nat.mul_add, Nat.add_comm 5, Nat.add_assoc s, Nat.add_comm 1]
    simp only [decodeGroups_succ_eq_some_iff, ih (s := s + 1) (by omega), Nat.forall_lt_succ_left, hrest,
      bitsFrom_eq_shiftNibble_iff (p := 4 * n) (by omega), Nat.mul_zero, Nat.add_zero, List.drop_zero,
      payloadGroup_eq (p := 4 * n) (s := s) (by omega)]
    constructor
    · rintro ⟨_, _, _, _, hgroup, ⟨habove, rfl, rfl, rfl, rfl⟩, hgroups⟩
      exact ⟨habove, hgroup, hgroups⟩
    · rintro ⟨habove, hgroup, hgroups⟩
      exact ⟨_, _, _, _, hgroup, ⟨habove, rfl, rfl, rfl, rfl⟩, hgroups⟩

/-! ### What a sequence decodes to -/

/-- Group `g` of the body of a 64-bit sequence (R171, R172). -/
def bodyGroup (lb : List Bool) (g : Nat) : List Bool := (lb.drop (9 + 5 * g)).take 5

/-- DECODE yields `v` exactly when the framing bit is 0 and the groups are those of `v` (R172 to R175). -/
theorem decodePayload_eq_some_iff {lb : List Bool} {v : Payload} :
    decodePayload lb = some v ↔ lb[63]? = some false ∧ ∀ g < 10, bodyGroup lb g = payloadGroup v g := by
  have hgroups : decodeGroups nGroups (lb.drop nHeader) 0#40 = some v ↔ ∀ g < 10, bodyGroup lb g = payloadGroup v g := by
    rw [show nGroups = 10 from rfl, decodeGroups_eq_some_iff (s := 0) rfl]
    simp [bodyGroup, nHeader]
  have hframing : (lb.drop nHeader)[framingIndex]? = lb[63]? := by simp [nHeader, framingIndex]
  rw [← hgroups, ← hframing, decodePayload]
  cases decodeGroups nGroups (lb.drop nHeader) 0#40 with
  | none => simp
  | some u => simp

/-- Five bits are group `g` of `v` exactly when their parity is even and the first four are the nibble's bits, most
significant first (R172 to R174). -/
theorem eq_payloadGroup_iff {group : List Bool} {v : Payload} {g : Nat} :
    group = payloadGroup v g ↔ ∃ b0 b1 b2 b3 b4, group = [b0, b1, b2, b3, b4] ∧ (b0 ^^ b1 ^^ b2 ^^ b3 ^^ b4) = false ∧
      v.getLsbD (39 - 4 * g) = b0 ∧ v.getLsbD (38 - 4 * g) = b1 ∧ v.getLsbD (37 - 4 * g) = b2 ∧
      v.getLsbD (36 - 4 * g) = b3 := by
  constructor
  · rintro rfl
    exact ⟨_, _, _, _, _, rfl, groupParity_eq_false_iff.2 rfl, rfl, rfl, rfl, rfl⟩
  · rintro ⟨_, _, _, _, b4, rfl, heven, rfl, rfl, rfl, rfl⟩
    obtain rfl := groupParity_eq_false_iff.1 heven
    rfl

/-! ### The frame of a payload -/

/-- The frame of a payload carries the payload's groups in order (R179 item 1). -/
theorem payloadGroups_append_group (v : Payload) (tail : List Bool) {n g : Nat} (hg : g < n) (s : Nat) :
    ((payloadGroups v n s ++ tail).drop (5 * g)).take 5 = payloadGroup v (s + g) := by
  induction n generalizing g s with
  | zero => omega
  | succ n ih =>
    rcases g with _ | g
    · rfl
    · rw [← Nat.add_assoc, Nat.add_right_comm, ← ih (Nat.lt_of_succ_lt_succ hg), Nat.mul_add, Nat.add_comm, ← List.drop_drop]
      rfl

/-- Group `g` of the frame of a payload is group `g` of the payload (R179 item 1). -/
theorem bodyGroup_payloadBits (v : Payload) (c0 c1 c2 c3 : Bool) {g : Nat} (hg : g < 10) :
    bodyGroup (payloadBits v c0 c1 c2 c3) g = payloadGroup v g := by
  rw [bodyGroup, ← List.drop_drop]
  exact (payloadGroups_append_group v _ hg 0).trans (by rw [Nat.zero_add])

/-- The framing bit of a frame is 0 (R175, R179 item 1). -/
theorem payloadBits_framing (v : Payload) (c0 c1 c2 c3 : Bool) : (payloadBits v c0 c1 c2 c3)[63]? = some false := rfl

/-! ### Flipped bits -/

/-- The exclusive-or of all bits of a list. -/
def xorAll (bits : List Bool) : Bool := bits.foldr xor false

/-- A group's parity is the exclusive-or of all its bits (R172). -/
theorem xorAll_eq_groupParity (b0 b1 b2 b3 b4 : Bool) : xorAll [b0, b1, b2, b3, b4] = groupParity b0 b1 b2 b3 b4 := by
  simp [xorAll, groupParity]

/-- A payload's groups have even parity (R172, R179 item 1). -/
theorem xorAll_payloadGroup (v : Payload) (g : Nat) : xorAll (payloadGroup v g) = false :=
  (xorAll_eq_groupParity ..).trans (groupParity_eq_false_iff.2 rfl)

/-- Flipping one bit changes the parity. -/
theorem xorAll_flipAt {bits : List Bool} {k : Nat} (hk : k < bits.length) : xorAll (flipAt k bits) = !xorAll bits := by
  induction bits generalizing k with
  | nil => cases hk
  | cons b bs ih =>
    rcases k with _ | k
    · change (!b ^^ xorAll bs) = !(b ^^ xorAll bs)
      rw [Bool.not_xor]
    · change (b ^^ xorAll (flipAt k bs)) = !(b ^^ xorAll bs)
      rw [ih (Nat.lt_of_succ_lt_succ hk), Bool.xor_not]

/-- A bit flipped in the groups is flipped in its own group. -/
theorem bodyGroup_flipAt (lb : List Bool) (k : Nat) :
    bodyGroup (flipAt (9 + k) lb) (k / 5) = flipAt (k % 5) (bodyGroup lb (k / 5)) := by
  have hdrop : (flipAt (9 + k) lb).drop (9 + 5 * (k / 5)) = flipAt (k % 5) (lb.drop (9 + 5 * (k / 5))) := by
    refine List.ext_getElem? fun i => ?_
    have hplace : 9 + k = 9 + 5 * (k / 5) + i ↔ k % 5 = i := by omega
    simp [flipAt, List.getElem?_modify, hplace]
  rw [bodyGroup, hdrop]
  exact List.take_modify ..

end Sys2Proof.Machine

namespace Sys2Proof

open Machine

/-- Settles O53: a group is the payload's when its parity is even and its data bits are the payload's. -/
theorem payloadIsTheTenNibbles : Obligations.PayloadIsTheTenNibbles := by
  intro lb v _
  rw [decodePayload_eq_some_iff]
  exact and_congr_right' (forall₂_congr fun _ _ => eq_payloadGroup_iff)

/-- Settles O54: the frame carries the payload's groups and the framing bit 0. -/
theorem everyPayloadSurvivesItsFrame : Obligations.EveryPayloadSurvivesItsFrame := fun v c0 c1 c2 c3 =>
  decodePayload_eq_some_iff.2 ⟨payloadBits_framing v c0 c1 c2 c3, fun _ hg => bodyGroup_payloadBits v c0 c1 c2 c3 hg⟩

/-- Settles O55: a flip in a group leaves it with odd parity, which no payload's group has. -/
theorem singleBitFlipsAreDetected : Obligations.SingleBitFlipsAreDetected := by
  intro v c0 c1 c2 c3 k hk
  refine Option.eq_none_iff_forall_ne_some.2 fun w hw => ?_
  obtain ⟨hframing, hgroups⟩ := decodePayload_eq_some_iff.1 hw
  rcases hk with hk | rfl
  · have hg : k / 5 < 10 := by omega
    have hflip := hgroups _ hg
    rw [bodyGroup_flipAt, bodyGroup_payloadBits _ _ _ _ _ hg] at hflip
    have hodd := xorAll_flipAt (bits := payloadGroup v (k / 5)) (k := k % 5) (Nat.mod_lt k (by decide))
    rw [hflip, xorAll_payloadGroup, xorAll_payloadGroup] at hodd
    cases hodd
  · rw [flipAt, List.getElem?_modify, payloadBits_framing] at hframing
    cases hframing

/-- Settles O56: the groups and the framing bit decide what a sequence decodes to. -/
theorem decodeReadsGroupsAndFramingOnly : Obligations.DecodeReadsGroupsAndFramingOnly := by
  intro lb lb' _ _ hagree
  have hgroup {g : Nat} (hg : g < 10) : bodyGroup lb g = bodyGroup lb' g := by
    refine List.ext_getElem? fun i => ?_
    rw [bodyGroup, bodyGroup, List.getElem?_take, List.getElem?_take, List.getElem?_drop, List.getElem?_drop]
    split
    · rw [Nat.add_assoc]
      exact hagree _ (.inl (by omega))
    · rfl
  refine Option.ext fun v => ?_
  rw [decodePayload_eq_some_iff, decodePayload_eq_some_iff, hagree 54 (.inr rfl)]
  exact and_congr_right' (forall₂_congr fun _ hg => by rw [hgroup hg])

end Sys2Proof
end

section
/-! PROOF. The scan as a whole (45_scan_orchestrator.md R190 to R196): which results it gives and in which order, that a
completion reads nothing but the capture, and that it comes within LAT_MAX cycles (70_reset_and_hazards.md R291). -/

namespace Sys2Proof.Machine

/-! ### The results -/

/-- An attempt yields a result exactly when it decodes, and then its payload and its run index (R192). -/
theorem AttemptOutcome.result?_eq_some_iff {o : AttemptOutcome} {i : Nat} {r : Result} :
    o.result? i = some r ↔ o = .decoded r.payload ∧ i = r.index := by
  obtain ⟨payload, index⟩ := r
  cases o with
  | decoded v => simp [AttemptOutcome.result?]
  | noMatch | collision | truncated | checksum => simp [AttemptOutcome.result?]

/-- A result of a scan is what the attempt at its run index decodes (R190, R192). -/
theorem mem_scanResults_iff {runs : List Run} {r : Result} :
    r ∈ scanResults runs ↔ r.index < runs.length ∧ attempt runs r.index = .decoded r.payload := by
  simp only [scanResults, List.mem_filterMap, AttemptOutcome.result?_eq_some_iff, List.mem_range]
  constructor
  · rintro ⟨_, hi, ha, rfl⟩
    exact ⟨hi, ha⟩
  · rintro ⟨hi, ha⟩
    exact ⟨_, hi, ha, rfl⟩

/-- The run indices of a scan's results rise strictly (R192). -/
theorem scanResults_pairwise (runs : List Run) : (scanResults runs).Pairwise fun a b => a.index < b.index := by
  refine List.pairwise_lt_range.filterMap _ fun i j hij a ha b hb => ?_
  obtain ⟨_, rfl⟩ := AttemptOutcome.result?_eq_some_iff.mp ha
  obtain ⟨_, rfl⟩ := AttemptOutcome.result?_eq_some_iff.mp hb
  exact hij

/-! ### What a completion reads -/

/-- Two states that hold the scan of the same bytes have the same results (R196). -/
theorem State.HoldsScanOf.sameResults {s t : State} {bytes : List Byte} (hs : s.HoldsScanOf bytes)
    (ht : t.HoldsScanOf bytes) : State.SameResults s t := by
  obtain ⟨hrc, hruns, hresn, hresmem, hcnt, _⟩ := hs
  obtain ⟨hrc', hruns', hresn', hresmem', hcnt', _⟩ := ht
  exact ⟨hrc'.trans hrc.symm, hruns'.trans hruns.symm, hresn'.trans hresn.symm, hresmem'.trans hresmem.symm,
    hcnt'.trans hcnt.symm⟩

/-! ### The cycles of a scan -/

/-- `t` is in the scan that `s` is in, as many cycles old: BUSY = 1, and BC, CAPBUF and the scan's age are those of `s`. -/
structure State.SameScan (s t : State) : Prop where
  busy : t.busy = true
  bc : t.bc = s.bc
  capbuf : t.capbuf = s.capbuf
  elapsed : t.elapsed = s.elapsed

/-- The capture of a scan is that of every state it goes through. -/
theorem State.SameScan.capture_eq {s t : State} (h : s.SameScan t) : t.capture = s.capture :=
  State.capture_congr h.capbuf h.bc

/-- While BUSY = 1 an operation goes on with the scan and leaves the cycles to come (20_memory.md R73). -/
theorem exec_sameScan {i : Instr} {s t : State} (h : exec i s = .next t) (hbusy : s.busy = true) :
    s.SameScan t ∧ t.pending = s.pending := by
  obtain ⟨hbusy', hbc, hcapbuf⟩ := exec_busy_frame h hbusy
  have hrest : t.elapsed = s.elapsed ∧ t.pending = s.pending := by
    obtain rfl | rfl | rfl | ⟨_, _, _, _, rfl⟩ | ⟨_, _, rfl⟩ | ⟨_, hidle, _⟩ | ⟨_, _, rfl⟩ | ⟨_, _, rfl⟩ := exec_cases h
    · exact ⟨rfl, rfl⟩
    · exact ⟨rfl, rfl⟩
    · exact ⟨rfl, rfl⟩
    · exact ⟨rfl, rfl⟩
    · exact ⟨rfl, rfl⟩
    · simp [hbusy] at hidle
    · exact ⟨rfl, rfl⟩
    · exact ⟨rfl, rfl⟩
  obtain ⟨helapsed, hpending⟩ := hrest
  exact ⟨⟨hbusy', hbc, hcapbuf, helapsed⟩, hpending⟩

/-- A cycle of a scan without reset ends with the scan's edge, after a transaction that goes on with the scan. -/
theorem step_busy {s : State} (hbusy : s.busy = true) (hrst : s.currentCycle.rst = false) :
    ∃ u, s.SameScan u ∧ u.pending = s.pending.tail ∧
      step s = .next (u.scanEdge Config.params s.currentCycle.finish) := by
  cases hsel : s.currentCycle.busSel
  · refine ⟨s.beginCycle, ⟨hbusy, rfl, rfl, rfl⟩, rfl, ?_⟩
    rw [step_quiet hrst hsel, hbusy, State.sequencerEdge_busy]
  · obtain ⟨u, hu⟩ := exec_answers (decode s.currentCycle.hop) s.beginCycle
    obtain ⟨hscan, hpending⟩ := exec_sameScan hu hbusy
    refine ⟨u, { hscan with }, hpending, ?_⟩
    rw [step_transaction hrst hsel hu, hbusy, State.sequencerEdge_busy]

/-- Where no cycle to come has a reset, the current one has none: beyond the list the cycles are idle (log entry 1). -/
theorem State.currentCycle_rst {s : State} (h : ∀ c ∈ s.pending, c.rst = false) : s.currentCycle.rst = false := by
  cases hp : s.pending with
  | nil => rw [State.currentCycle_nil hp, Cycle.idle]
  | cons c rest =>
    rw [State.currentCycle_cons hp]
    exact h c (hp ▸ List.mem_cons_self)

/-- A scan younger than LAT_MAX, with no reset to come, completes by the time it is LAT_MAX cycles old, with the capture it
has now: each cycle completes it or makes it one cycle older (70_reset_and_hazards.md R291). -/
theorem run_completes {s : State} (hbusy : s.busy = true) (hyoung : s.elapsed < Config.params.latMax s.bc)
    (hrst : ∀ c ∈ s.pending, c.rst = false) :
    ∃ (k : Nat) (u : State), 1 ≤ k ∧ k + s.elapsed ≤ Config.params.latMax s.bc ∧ u.capture = s.capture ∧
      Sys2Proof.core.run k s = .next (u.complete Config.params) := by
  obtain ⟨u, hscan, hpending, hstep⟩ := step_busy hbusy (State.currentCycle_rst hrst)
  obtain hedge | ⟨_, hyoung', hedge⟩ := u.scanEdge_cases Config.params s.currentCycle.finish <;> rw [hedge] at hstep
  · exact ⟨1, u, le_rfl, by omega, hscan.capture_eq, run_succ 0 hstep⟩
  · rw [hscan.bc, hscan.elapsed] at hyoung'
    have hage : u.age.elapsed = s.elapsed + 1 := congrArg (· + 1) hscan.elapsed
    have hbc : u.age.bc = s.bc := hscan.bc
    obtain ⟨k, v, _, hk, hcapture, hrun⟩ := run_completes (s := u.age) hscan.busy (by rwa [hage, hbc])
      fun c hc => hrst c (List.mem_of_mem_tail (hpending ▸ hc))
    rw [hage, hbc] at hk
    exact ⟨k + 1, v, by omega, by omega, hcapture.trans hscan.capture_eq, (run_succ k hstep).trans hrun⟩
termination_by Config.params.latMax s.bc - s.elapsed
decreasing_by
  rw [hage, hbc]
  omega

end Sys2Proof.Machine

namespace Sys2Proof

open Machine

/-- Settles O57: the attempts are made in ascending run index, and a decoded one yields its result. -/
theorem resultsAreTheDecodedAttemptsInOrder : Obligations.ResultsAreTheDecodedAttemptsInOrder := fun runs =>
  ⟨scanResults_pairwise runs, fun _ _ => mem_scanResults_iff⟩

/-- Settles O60: both completions leave the scan of the one capture. -/
theorem completionDependsOnTheCaptureAlone : Obligations.CompletionDependsOnTheCaptureAlone := by
  intro s s' hcapture
  have hscan : (s.complete Config.params).HoldsScanOf s'.capture := hcapture ▸ s.complete_holdsScanOf
  have hsame := hscan.sameResults s'.complete_holdsScanOf
  have ⟨hrc, _, hresn, _⟩ := hscan
  exact ⟨hsame, hscan, hrc, hresn, ⟨rfl, fun _ => rfl⟩, rfl, rfl, rfl, rfl, rfl⟩

/-- Settles O12: the run ends with the completion, which leaves the capture and the scan of it. -/
theorem scanCompletesWithinLatMax : Obligations.ScanCompletesWithinLatMax := by
  intro s hbusy hyoung hrst
  obtain ⟨k, u, hpos, hbound, hcapture, hrun⟩ := run_completes hbusy hyoung hrst
  refine ⟨k, u.complete Config.params, hpos, hbound, hrun, rfl, rfl, hcapture ▸ u.complete_holdsScanOf, ?_⟩
  rw [State.capture_congr (u.complete_capbuf _) (u.complete_bc _), hcapture]

end Sys2Proof
end

section
/-! PROOF. The host operations one by one (46_host_operations.md R210 to R231): the word a write or a read is decoded from,
and what each command, data write and count read leaves. -/

namespace Sys2Proof.Machine

/-! ### The operation of a CTRL or DATA_IN write -/

/-- A CTRL write is decoded by D[3:0], whatever D[31:4] (30_encoding.md R82, R83). -/
theorem decode_ctrlWrite (d : BitVec 28) (cmd : BitVec 4) : decode (hopOf true 0#4 (d ++ cmd)) = decodeCommand cmd :=
  have hcmd : cmdField (d ++ cmd) = cmd := BitVec.extractLsb'_append_eq_right
  (decode_write 0#4 _).trans (congrArg decodeCommand hcmd)

/-- A DATA_IN write is a PUSHB of D[7:0], whatever D[31:8] (30_encoding.md R82, 46_host_operations.md R215). -/
theorem decode_dataWrite (d : BitVec 24) (b : Byte) : decode (hopOf true 2#4 (d ++ b)) = .pushb b :=
  have hbyte : byteField (d ++ b) = b := BitVec.extractLsb'_append_eq_right
  (decode_write 2#4 _).trans (congrArg Instr.pushb hbyte)

/-- Commands 3 to 15 are the reserved ones (30_encoding.md R83, R87). -/
theorem isReserved_decodeCommand : ∀ cmd : BitVec 4, 3 ≤ cmd.toNat → (decodeCommand cmd).isReserved = true := by decide

/-! ### STATUS and PHASE -/

/-- STATUS has the value of its five flags in bits 4 to 0, and 0 above them (46_host_operations.md R218). -/
theorem State.statusWord_toNat (s : State) : s.statusWord.toNat =
    16 * s.accErr.toNat + 8 * s.resOvf.toNat + 4 * s.capOvf.toNat + 2 * s.done.toNat + s.busy.toNat := by
  have hflags : ∀ accErr resOvf capOvf done busy : Bool,
      (0#27 ++ BitVec.ofBool accErr ++ BitVec.ofBool resOvf ++ BitVec.ofBool capOvf ++ BitVec.ofBool done
        ++ BitVec.ofBool busy).toNat =
      16 * accErr.toNat + 8 * resOvf.toNat + 4 * capOvf.toNat + 2 * done.toNat + busy.toNat := by decide
  exact hflags ..

/-- With BUSY = 0 an accepted CLEAR leaves STATUS = 0 (46_host_operations.md R212). -/
theorem State.clearAll_statusWord {s : State} (h : s.busy = false) : s.clearAll.statusWord = 0#32 :=
  BitVec.eq_of_toNat_eq (by simp [State.statusWord_toNat, h])

/-- PHASE is IDLE while BUSY = 0 (10_state.md R43). -/
theorem State.phase_idle {s : State} (h : s.busy = false) : s.phase = .idle := by simp [State.phase, h]

/-! ### The scan of an empty capture -/

/-- A completion with nothing captured gives no run and no result (46_host_operations.md R213). -/
theorem State.complete_empty {s : State} (h : s.bc = 0) (P : Params) : (s.complete P).rc = 0 ∧ (s.complete P).resn = 0 := by
  have hcapture : s.capture = [] := List.eq_nil_of_length_eq_zero (s.capture_length.trans h)
  rw [State.complete_rc, State.complete_resn, hcapture]
  exact ⟨rfl, Nat.zero_min _⟩

end Sys2Proof.Machine

namespace Sys2Proof

open Machine

/-! ### Commands -/

/-- Settles O14: no field of the state is written, and neither D of an ignored write nor D[31:4] of a command is read. -/
theorem nopAndIgnoredWritesChangeNothing : Obligations.NopAndIgnoredWritesChangeNothing := by
  intro s
  refine ⟨exec_nop s, exec_wrIgn1 s, exec_wrIgn3 s, fun a => exec_wrIgn4 a s, exec_wrIgn7 s, fun a => exec_wrIgn8 a s,
    fun d => decode_ctrlWrite d 0#4, fun a d hctrl hdata hsel => ?_⟩
  rw [decode_write]
  exact isIgnoredWrite_decodeWrite hctrl hdata hsel d

/-- Settles O15: each form is a rejected write, and every command from 3 on has one of the forms. -/
theorem reservedCommandsSetAccErrOnly : Obligations.ReservedCommandsSetAccErrOnly := by
  intro s
  refine ⟨exec_rsvdCmd3 s, fun cmd => exec_rsvdCmd4 cmd s, fun cmd => exec_rsvdCmd8 cmd s, by decide, fun d cmd hcmd => ?_⟩
  rw [decode_ctrlWrite]
  exact isReserved_decodeCommand cmd hcmd

/-- Settles O16: CLEAR is rejected by a busy block and accepted by an idle one. -/
theorem clearEmptiesAnIdleBlock : Obligations.ClearEmptiesAnIdleBlock := by
  intro s
  refine ⟨fun hbusy => ?_, fun hidle => ?_, fun d => decode_ctrlWrite d 1#4⟩
  · rw [exec_clear, State.clear_busy hbusy, State.rejectWrite]
  · rw [exec_clear, State.clear_idle hidle]
    exact ⟨s.clearAll, rfl, rfl, rfl, rfl, rfl, rfl, State.clearAll_statusWord hidle, State.phase_idle hidle,
      ⟨rfl, rfl, rfl⟩, rfl, rfl⟩

/-- Settles O17: an accepted START keeps the capture, and a completion then scans it. -/
theorem startBeginsAScan : Obligations.StartBeginsAScan := by
  intro s
  refine ⟨fun hbusy => ?_, fun hidle => ?_, fun d => decode_ctrlWrite d 2#4⟩
  · rw [exec_start, State.start_busy hbusy, State.rejectWrite]
  · have hcapture : s.beginScan.capture = s.capture := State.capture_congr s.beginScan_capbuf s.beginScan_bc
    have hscan := s.beginScan.complete_holdsScanOf
    rw [hcapture] at hscan
    rw [exec_start, State.start_idle hidle]
    exact ⟨s.beginScan, rfl, rfl, rfl, rfl, rfl, rfl, rfl, ⟨rfl, fun _ => rfl⟩, ⟨rfl, rfl, rfl, rfl, rfl⟩, rfl,
      ⟨rfl, rfl, rfl⟩, rfl, hscan, fun hempty => State.complete_empty (s := s.beginScan) hempty _⟩

/-- Settles O13: the cycle starts with BUSY = 0, so no edge of the sequencer follows the START. -/
theorem acceptedStartLeavesTheBlockBusy : Obligations.AcceptedStartLeavesTheBlockBusy := by
  intro s hidle
  have hstep := presentedOperationRunsInTheNextStep .start s rfl
  have hword : encode .start = 0x1000000002#37 := by decide
  rw [hword, exec_start, State.start_idle (s := { s with rdata := 0#32 }) hidle, hidle, endCycle,
    State.sequencerEdge_idle] at hstep
  exact ⟨_, hstep, rfl, rfl, rfl⟩

/-! ### Data writes -/

/-- Settles O18: PUSHB is rejected by a busy block, dropped by a full one, and else written at BC alone. -/
theorem pushbAppendsOrDropsItsByte : Obligations.PushbAppendsOrDropsItsByte := by
  intro s b
  refine ⟨fun hbusy => ?_, fun hidle hfull => ?_, fun hidle hroom => ?_, fun d => decode_dataWrite d b⟩
  · rw [exec_pushb, State.pushByte_busy _ b hbusy, State.rejectWrite]
  · rw [exec_pushb, State.pushByte_full b hidle hfull, State.dropByte]
  · rw [exec_pushb, State.pushByte_room b hidle hroom]
    exact ⟨s.appendByte b, rfl, rfl, Memory.read_write_same _ _ _, fun a hother => Memory.read_write_other _ b hother, rfl,
      ⟨rfl, rfl, rfl, rfl, rfl⟩, rfl, ⟨rfl, rfl, rfl⟩, rfl, rfl⟩

/-- Settles O20: a window shows 0 with SEL not below RESN. -/
theorem wrselStoresEveryWord : Obligations.WrselStoresEveryWord := by
  intro s k
  refine ⟨exec_wrsel k s, decode_write 6#4 k, fun hsel => ?_⟩
  have hwindow := State.window_unselected (s := s.select k) hsel
  exact ⟨hwindow _, hwindow _, hwindow _⟩

/-! ### Reads -/

/-- Settles O21: the word is STATUS, which has the flags' value. -/
theorem statusReadShowsTheFlags : Obligations.StatusReadShowsTheFlags := fun s =>
  ⟨s.statusWord, exec_rdStatus s, s.statusWord_toNat, decode_read 1#4⟩

/-- Settles O22: both reads answer their register's word, whatever BUSY is. -/
theorem byteCountAndSelectAreAlwaysReadable : Obligations.ByteCountAndSelectAreAlwaysReadable := fun s =>
  ⟨exec_rdByteCount s, exec_rdResultSel s, fun d => ⟨decode_read 3#4 d, decode_read 6#4 d⟩⟩

/-- Settles O23: the three reads answer 0, whatever BUSY is. -/
theorem writeOnlyAndReservedReadZero : Obligations.WriteOnlyAndReservedReadZero := fun s =>
  ⟨exec_rdZero0 s, exec_rdZero2 s, exec_rdZero15 s,
    fun d => ⟨decode_read 0#4 d, decode_read 2#4 d, decode_read 15#4 d⟩⟩

/-- Settles O24: with BUSY = 0 each of the seven reads answers the word of its location. -/
theorem idleCountReadsReturnTheCounts : Obligations.IdleCountReadsReturnTheCounts := by
  intro s hidle
  have read (r : RegName) := exec_read_defined r (.inl hidle)
  simp only [List.forall_mem_cons, List.not_mem_nil, IsEmpty.forall_iff, implies_true, and_true]
  exact ⟨read .runCount, read .resultCount, read .cntNomatch, read .cntCollision, read .cntTrunc, read .cntChecksum,
    read .cntDecoded⟩

end Sys2Proof
end

section
/-! PROOF. The STATUS flags beside BUSY and DONE (60_exceptions.md R257 to R259, R261): which operation sets ACC_ERR or
CAP_OVF and which clears it, what RES_OVF tells, and that the writes accepted during a scan commute with its completion
(R262). -/

namespace Sys2Proof.Machine

/-! ### What sets or clears a flag -/

/-- The host writes that are rejected: a reserved command, and CLEAR, START and PUSHB while BUSY = 1 (R257). -/
def State.Rejects (s : State) (i : Instr) : Prop := i.isReserved = true ∨ (s.busy = true ∧ i.isBusyRejected = true)

/-- The host writes whose byte is dropped: PUSHB with BUSY = 0 into a full buffer (R258, R261). -/
def State.Drops (s : State) (i : Instr) : Prop :=
  (∃ b, i = .pushb b) ∧ s.busy = false ∧ s.bc = Config.params.capBytes

/-- The host writes that clear the flags: CLEAR with BUSY = 0 (46_host_operations.md R212). -/
def State.Clears (s : State) (i : Instr) : Prop := i = .clear ∧ s.busy = false

/-- A rejected write is no PUSHB into an idle block. -/
theorem State.Rejects.not_drops {s : State} {i : Instr} (h : s.Rejects i) : ¬s.Drops i := by
  rintro ⟨⟨b, rfl⟩, hidle, _⟩
  simp [State.Rejects, Instr.isReserved, hidle] at h

/-- A rejected write is no CLEAR of an idle block. -/
theorem State.Rejects.not_clears {s : State} {i : Instr} (h : s.Rejects i) : ¬s.Clears i := by
  rintro ⟨rfl, hidle⟩
  simp [State.Rejects, Instr.isReserved, hidle] at h

/-- A dropped byte is no CLEAR. -/
theorem State.Drops.not_clears {s : State} {i : Instr} (h : s.Drops i) : ¬s.Clears i := by
  obtain ⟨⟨b, rfl⟩, _⟩ := h
  rintro ⟨hi, _⟩
  cases hi

/-- A reserved command is a rejected write, whatever BUSY is (46_host_operations.md R211). -/
theorem exec_reserved {i : Instr} (h : i.isReserved = true) (s : State) : exec i s = .next s.rejectWrite := by
  cases i
  case rsvdCmd3 | rsvdCmd4 | rsvdCmd8 => rfl
  all_goals cases h

/-- CLEAR, START and PUSHB are rejected writes while BUSY = 1 (70_reset_and_hazards.md R287). -/
theorem exec_busyRejected {i : Instr} (h : i.isBusyRejected = true) {s : State} (hbusy : s.busy = true) :
    exec i s = .next s.rejectWrite := by
  cases i
  case clear => rw [exec_clear, State.clear_busy hbusy]
  case start => rw [exec_start, State.start_busy hbusy]
  case pushb b => rw [exec_pushb, State.pushByte_busy _ b hbusy]
  all_goals cases h

/-- A rejected write sets ACC_ERR and has no other effect (R257). -/
theorem State.Rejects.exec_eq {s : State} {i : Instr} (h : s.Rejects i) : exec i s = .next s.rejectWrite := by
  obtain hreserved | ⟨hbusy, hrejected⟩ := h
  · exact exec_reserved hreserved s
  · exact exec_busyRejected hrejected hbusy

/-- A dropped byte sets CAP_OVF and has no other effect (R258). -/
theorem State.Drops.exec_eq {s : State} {i : Instr} (h : s.Drops i) : exec i s = .next s.dropByte := by
  obtain ⟨⟨b, rfl⟩, hidle, hfull⟩ := h
  rw [exec_pushb, State.pushByte_full b hidle hfull]

/-- A read leaves the two flags. -/
theorem exec_read_flags {i : Instr} {s t : State} (hi : i ∈ readInstrs) (h : exec i s = .next t) :
    t.accErr = s.accErr ∧ t.capOvf = s.capOvf := by
  obtain ⟨w, n, hread, _⟩ := readsHaveNoSideEffect i hi s
  obtain rfl := Host.Outcome.next.inj (h.symm.trans hread)
  exact ⟨rfl, rfl⟩

/-- An operation that is none of the three leaves the two flags. -/
theorem exec_keeps_flags {i : Instr} {s t : State} (h : exec i s = .next t) (hrejected : ¬s.Rejects i)
    (hdropped : ¬s.Drops i) (hcleared : ¬s.Clears i) : t.accErr = s.accErr ∧ t.capOvf = s.capOvf := by
  cases i
  case rsvdCmd3 | rsvdCmd4 | rsvdCmd8 => exact absurd (.inl rfl) hrejected
  case clear =>
    obtain ⟨hbusy, _⟩ | ⟨hidle, _⟩ := s.clear_cases
    · exact absurd (.inr ⟨hbusy, rfl⟩) hrejected
    · exact absurd ⟨rfl, hidle⟩ hcleared
  case start =>
    obtain ⟨hbusy, _⟩ | ⟨_, hstart⟩ := s.start_cases
    · exact absurd (.inr ⟨hbusy, rfl⟩) hrejected
    · obtain rfl := Host.Outcome.next.inj h
      rw [hstart]
      exact ⟨rfl, rfl⟩
  case pushb b =>
    obtain ⟨hbusy, _⟩ | ⟨hidle, hfull, _⟩ | ⟨_, _, hpush⟩ := s.pushByte_cases Config.params b
    · exact absurd (.inr ⟨hbusy, rfl⟩) hrejected
    · exact absurd ⟨⟨b, rfl⟩, hidle, hfull⟩ hdropped
    · obtain rfl := Host.Outcome.next.inj h
      rw [hpush]
      exact ⟨rfl, rfl⟩
  case nop | wrsel | wrIgn1 | wrIgn3 | wrIgn4 | wrIgn7 | wrIgn8 =>
    obtain rfl := Host.Outcome.next.inj h
    exact ⟨rfl, rfl⟩
  all_goals exact exec_read_flags (by decide) h

/-- What an operation does with the two flags: it is a rejected write, drops a byte, clears, or leaves them. -/
theorem exec_flag_cases {i : Instr} {s t : State} (h : exec i s = .next t) :
    (s.Rejects i ∧ t = s.rejectWrite) ∨ (s.Drops i ∧ t = s.dropByte) ∨ (s.Clears i ∧ t = s.clearAll) ∨
    (¬s.Rejects i ∧ ¬s.Drops i ∧ ¬s.Clears i ∧ t.accErr = s.accErr ∧ t.capOvf = s.capOvf) := by
  by_cases hrejected : s.Rejects i
  · exact .inl ⟨hrejected, Host.Outcome.next.inj (h.symm.trans hrejected.exec_eq)⟩
  by_cases hdropped : s.Drops i
  · exact .inr (.inl ⟨hdropped, Host.Outcome.next.inj (h.symm.trans hdropped.exec_eq)⟩)
  by_cases hcleared : s.Clears i
  · obtain ⟨rfl, hidle⟩ := hcleared
    rw [exec_clear, State.clear_idle hidle] at h
    exact .inr (.inr (.inl ⟨⟨rfl, hidle⟩, (Host.Outcome.next.inj h).symm⟩))
  · exact .inr (.inr (.inr ⟨hrejected, hdropped, hcleared, exec_keeps_flags h hrejected hdropped hcleared⟩))

/-- ACC_ERR after an operation: set by a rejected write, and else as before unless cleared (R257). -/
theorem exec_accErr_iff {i : Instr} {s t : State} (h : exec i s = .next t) :
    t.accErr = true ↔ s.Rejects i ∨ (s.accErr = true ∧ ¬s.Clears i) := by
  obtain ⟨hrejected, rfl⟩ | ⟨hdropped, rfl⟩ | ⟨hcleared, rfl⟩ | ⟨hrejected, _, hcleared, hacc, _⟩ := exec_flag_cases h
  · simp [hrejected]
  · have hrejected : ¬s.Rejects i := fun h => h.not_drops hdropped
    simp [hrejected, hdropped.not_clears]
  · have hrejected : ¬s.Rejects i := fun h => h.not_clears hcleared
    simp [hrejected, hcleared]
  · simp [hrejected, hcleared, hacc]

/-- CAP_OVF after an operation: set by a dropped byte, and else as before unless cleared (R258). -/
theorem exec_capOvf_iff {i : Instr} {s t : State} (h : exec i s = .next t) :
    t.capOvf = true ↔ s.Drops i ∨ (s.capOvf = true ∧ ¬s.Clears i) := by
  obtain ⟨hrejected, rfl⟩ | ⟨hdropped, rfl⟩ | ⟨hcleared, rfl⟩ | ⟨_, hdropped, hcleared, _, hovf⟩ := exec_flag_cases h
  · simp [hrejected.not_drops, hrejected.not_clears]
  · simp [hdropped]
  · have hdropped : ¬s.Drops i := fun h => h.not_clears hcleared
    simp [hdropped, hcleared]
  · simp [hdropped, hcleared, hovf]

/-- A PUSHB into a full buffer keeps the capture, whether the block is busy or not (R258). -/
theorem exec_pushb_full_capture {b : Byte} {s t : State} (h : exec (.pushb b) s = .next t)
    (hfull : s.bc = Config.params.capBytes) : t.capture = s.capture := by
  obtain rfl := Host.Outcome.next.inj h
  obtain ⟨_, hpush⟩ | ⟨_, _, hpush⟩ | ⟨_, hroom, _⟩ := s.pushByte_cases Config.params b
  · rw [hpush]
    exact State.capture_congr s.rejectWrite_capbuf s.rejectWrite_bc
  · rw [hpush]
    exact State.capture_congr s.dropByte_capbuf s.dropByte_bc
  · exact absurd hfull hroom

/-! ### The edge of a scan -/

/-- The edge of a scan leaves ACC_ERR. -/
@[simp] theorem State.scanEdge_accErr (s : State) (P : Params) (finish : Bool) :
    (s.scanEdge P finish).accErr = s.accErr := by
  obtain h | ⟨_, _, h⟩ := s.scanEdge_cases P finish <;> simp [h]

/-- The edge of a scan leaves CAP_OVF. -/
@[simp] theorem State.scanEdge_capOvf (s : State) (P : Params) (finish : Bool) :
    (s.scanEdge P finish).capOvf = s.capOvf := by
  obtain h | ⟨_, _, h⟩ := s.scanEdge_cases P finish <;> simp [h]

/-- A completion reads and writes other registers than a rejected write (R262). -/
theorem State.complete_rejectWrite (s : State) (P : Params) :
    s.rejectWrite.complete P = (s.complete P).rejectWrite := rfl

/-- A completion reads and writes other registers than WRSEL (R262). -/
theorem State.complete_select (s : State) (P : Params) (k : Word) :
    (s.select k).complete P = (s.complete P).select k := rfl

end Sys2Proof.Machine

namespace Sys2Proof

open Machine

/-- Settles O31: a rejected write is no accepted CLEAR, and nothing else writes ACC_ERR. -/
theorem accErrIsSetByExactlyTheRejectedWrites : Obligations.AccErrIsSetByExactlyTheRejectedWrites := by
  refine ⟨fun i s t h => ⟨fun hclear => ?_, fun hrejected => ?_, fun hset => ?_⟩,
    fun s finish => s.scanEdge_accErr _ finish, fun s c => s.resetEdge_accErr c⟩
  · simpa [hclear, State.Rejects] using exec_accErr_iff h
  · exact Host.Outcome.next.inj (h.symm.trans (State.Rejects.exec_eq hrejected))
  · have hiff : t.accErr = false ↔ ¬s.Rejects i ∧ s.Clears i := by
      simp [← Bool.not_eq_true, exec_accErr_iff h, hset]
    exact hiff.trans (and_iff_right_of_imp fun hcleared hrejected => hrejected.not_clears hcleared)

/-- Settles O32: a dropped byte is no CLEAR, and nothing else writes CAP_OVF. -/
theorem capOvfIsSetByExactlyTheDroppedBytes : Obligations.CapOvfIsSetByExactlyTheDroppedBytes := by
  refine ⟨fun i s t h => ⟨fun hclear => ?_, ?_, fun hset => ?_⟩,
    fun s finish => s.scanEdge_capOvf _ finish, fun s c => s.resetEdge_capOvf c⟩
  · simpa [hclear, State.Drops] using exec_capOvf_iff h
  · rintro ⟨b, rfl⟩ hfull
    exact exec_pushb_full_capture h hfull
  · have hiff : t.capOvf = false ↔ ¬s.Drops i ∧ s.Clears i := by
      simp [← Bool.not_eq_true, exec_capOvf_iff h, hset]
    exact hiff.trans (and_iff_right_of_imp fun hcleared hdropped => hdropped.not_clears hcleared)

/-- Settles O33: a completion holds the scan of the capture, and an idle block accepts START and CLEAR. -/
theorem resOvfTellsOfDroppedResults : Obligations.ResOvfTellsOfDroppedResults := by
  intro s
  have hscan := s.complete_holdsScanOf
  refine ⟨hscan.resOvf_iff, hscan.decoded_eq, s.complete_resmem _, fun hidle => ⟨?_, ?_⟩, fun c => s.resetEdge_resOvf c⟩
  · exact ⟨s.beginScan, by rw [exec_start, State.start_idle hidle], s.beginScan_resOvf⟩
  · exact ⟨s.clearAll, by rw [exec_clear, State.clear_idle hidle], s.clearAll_resOvf⟩

/-- Settles O11: what such an operation leaves is the state itself, a new SEL or a set ACC_ERR, which a completion neither
reads nor writes. -/
theorem acceptedBusyWritesCommuteWithCompletion : Obligations.AcceptedBusyWritesCommuteWithCompletion := by
  rintro i s - (rfl | ⟨k, rfl⟩ | hignored | hreserved)
  · exact ⟨s, exec_nop _, exec_nop _⟩
  · exact ⟨s.select k, exec_wrsel k s, by rw [exec_wrsel, State.complete_select]⟩
  · exact ⟨s, exec_ignoredWrite hignored _, exec_ignoredWrite hignored _⟩
  · exact ⟨s.rejectWrite, exec_reserved hreserved s, by rw [exec_reserved hreserved, State.complete_rejectWrite]⟩

end Sys2Proof
end

section
/-! PROOF. The reset cycle (70_reset_and_hazards.md R280 to R282) and the result registers read during a scan (R286). -/

namespace Sys2Proof.Machine

/-- A reset edge leaves STATUS = 0 (R282). -/
theorem State.resetEdge_statusWord (s : State) (c : Cycle) : (s.resetEdge c).statusWord = 0#32 :=
  BitVec.eq_of_toNat_eq (by simp [State.statusWord_toNat])

end Sys2Proof.Machine

namespace Sys2Proof

open Machine

/-- Settles O7: the reset edge leaves every flag and count at 0, so the windows show 0. -/
theorem resetCycleResetsAndIgnoresTheTransaction : Obligations.ResetCycleResetsAndIgnoresTheTransaction := by
  intro s c rest hpending hrst
  obtain rfl := State.currentCycle_cons hpending
  have hwindow (f : Result → Word) : (s.beginCycle.resetEdge s.currentCycle).window f = 0#32 :=
    State.window_unselected (Nat.zero_le _) f
  exact ⟨_, step_reset hrst, State.resetEdge_statusWord _ _, State.phase_idle rfl, rfl, rfl, rfl, rfl, rfl, rfl,
    hwindow _, hwindow _, hwindow _, rfl, congrArg List.tail hpending, rfl⟩

/-- Settles O26: each of the ten is a read of a location, and answers the next free value. -/
theorem busyResultReadsReturnSomeWord : Obligations.BusyResultReadsReturnSomeWord := by
  intro s hbusy i hi
  have hread : ∀ i ∈ resultReads, i ∈ readInstrs := by decide
  obtain ⟨r, _, rfl⟩ := exists_decodeRead_of_mem_readInstrs i (hread i hi)
  exact ⟨_, exec_read_busy hbusy hi⟩

end Sys2Proof
end
